-- ==== Sys2Proof/Word.lean ====
section
/-! DEFINITION. The words of the Imzara 408 and its fixed-size record tables: bytes, two-byte and
four-byte numbers (R167), and the tables of four ports, legs or units and of eight sense inputs. -/

namespace Sys2Proof

/-- One byte of a frame or entry. -/
abbrev Byte := BitVec 8
/-- A two-byte number of a frame or entry (R167), and the 16-bit SYNC edge counter (R124). -/
abbrev Half := BitVec 16
/-- The 32-bit microsecond timestamp (R121). -/
abbrev Stamp := BitVec 32

/-- A table of four records, one per port, leg or unit. -/
structure Four (α : Type) where
  e0 : α
  e1 : α
  e2 : α
  e3 : α
deriving DecidableEq, Repr

/-- A table of eight records, one per sense input. -/
structure Eight (α : Type) where
  e0 : α
  e1 : α
  e2 : α
  e3 : α
  e4 : α
  e5 : α
  e6 : α
  e7 : α
deriving DecidableEq, Repr

/-- The record of index `i`. -/
def Four.get {α : Type} (t : Four α) (i : Fin 4) : α :=
  match i with
  | 0 => t.e0
  | 1 => t.e1
  | 2 => t.e2
  | 3 => t.e3

/-- The table with the record of index `i` replaced. -/
def Four.set {α : Type} (t : Four α) (i : Fin 4) (x : α) : Four α :=
  match i with
  | 0 => { t with e0 := x }
  | 1 => { t with e1 := x }
  | 2 => { t with e2 := x }
  | 3 => { t with e3 := x }

/-- The table whose record of index `i` is `f i`. -/
def Four.tabulate {α : Type} (f : Fin 4 → α) : Four α := ⟨f 0, f 1, f 2, f 3⟩

/-- Every record changed by `f`, which is told its index. -/
def Four.mapIdx {α β : Type} (t : Four α) (f : Fin 4 → α → β) : Four β :=
  ⟨f 0 t.e0, f 1 t.e1, f 2 t.e2, f 3 t.e3⟩

/-- The records in the order of their indices. -/
def Four.toList {α : Type} (t : Four α) : List α := [t.e0, t.e1, t.e2, t.e3]

/-- The record of index `i`. -/
def Eight.get {α : Type} (t : Eight α) (i : Fin 8) : α :=
  match i with
  | 0 => t.e0
  | 1 => t.e1
  | 2 => t.e2
  | 3 => t.e3
  | 4 => t.e4
  | 5 => t.e5
  | 6 => t.e6
  | 7 => t.e7

/-- The table with the record of index `i` replaced. -/
def Eight.set {α : Type} (t : Eight α) (i : Fin 8) (x : α) : Eight α :=
  match i with
  | 0 => { t with e0 := x }
  | 1 => { t with e1 := x }
  | 2 => { t with e2 := x }
  | 3 => { t with e3 := x }
  | 4 => { t with e4 := x }
  | 5 => { t with e5 := x }
  | 6 => { t with e6 := x }
  | 7 => { t with e7 := x }

/-- The table whose record of index `i` is `f i`. -/
def Eight.tabulate {α : Type} (f : Fin 8 → α) : Eight α :=
  ⟨f 0, f 1, f 2, f 3, f 4, f 5, f 6, f 7⟩

/-- Every record changed by `f`, which is told its index. -/
def Eight.mapIdx {α β : Type} (t : Eight α) (f : Fin 8 → α → β) : Eight β :=
  ⟨f 0 t.e0, f 1 t.e1, f 2 t.e2, f 3 t.e3, f 4 t.e4, f 5 t.e5, f 6 t.e6, f 7 t.e7⟩

/-- The four indices in rising order: ports 0 to 3, L0 to L3, U0 to U3. -/
def four : List (Fin 4) := [0, 1, 2, 3]
/-- The eight indices in rising order: S0 to S7. -/
def eight : List (Fin 8) := [0, 1, 2, 3, 4, 5, 6, 7]

end Sys2Proof
end

