-- ==== Sys2Proof/Syntax.lean ====
section
/-! DEFINITION. The rows of spec/opcode_table.json, one constructor each, with their operands.

A command row carries the port it came from, its sequence byte and the fields of its body as they
stand in the frame (R165, R168, R169), so that every value a frame can carry is a value of the row.
An event row carries what the event names and, where the spec samples a pin, the sample. -/

namespace Sys2Proof

/-- Ports CP0 to CP3 (1.2.3). -/
abbrev Port := Fin 4
/-- Legs L0 to L3. -/
abbrev Leg := Fin 4
/-- Units U0 to U3. -/
abbrev UnitNo := Fin 4
/-- Sense inputs S0 to S7. -/
abbrev SenseNo := Fin 8

/-- The level of a pin or of a comparator output. -/
inductive Level where
  | low
  | high
deriving DecidableEq, Repr

/-- The commands a frame can name (R168). -/
inductive Command where
  | ident | portReset | readTime
  | openSetup | closeSetup | setUnitMap | setLeg | setUnit | setSense | setSupervisor | setSupply
  | readConfig | commit
  | claim | withdraw | renew | release | revoke | unitStatus
  | enqueue | flush | legStatus
  | senseStatus | readTrip | clearTrip
deriving DecidableEq, Repr

/-- The results of a frame that fails a check of R152. -/
inductive FrameError where
  | frame | check | unknown | length
deriving DecidableEq, Repr

/-- The 15 bytes of a segment record as an ENQUEUE body carries them (R169). -/
structure RawSegment where
  mode : Byte
  period : Half
  onTime : Half
  count : Half
  tag : Byte
  flags : Byte
  stepSign : Byte
  stepMagnitude : Byte
  gateValue : Stamp
deriving DecidableEq, Repr

/-- The commands and events of the part, one constructor per row of the opcode table. -/
inductive Instr where
  /-- IDENT (R163). -/
  | ident (p : Port) (seq : Byte)
  /-- PORT_RESET (R161). -/
  | portReset (p : Port) (seq : Byte)
  /-- READ_TIME (R125). -/
  | readTime (p : Port) (seq : Byte)
  /-- OPEN_SETUP (R134). -/
  | openSetup (p : Port) (seq : Byte)
  /-- CLOSE_SETUP (R136). -/
  | closeSetup (p : Port) (seq : Byte)
  /-- SET_UNIT_MAP (R139): the unit of L0, L1, L2, L3. -/
  | setUnitMap (p : Port) (seq u0 u1 u2 u3 : Byte)
  /-- SET_LEG (R140). -/
  | setLeg (p : Port) (seq leg kind : Byte) (dt minOn maxOn : Half)
      (idle lowWater escalation : Byte)
  /-- SET_UNIT (R141). -/
  | setUnit (p : Port) (seq unit allowed : Byte) (quiet maxLease : Half)
  /-- SET_SENSE (R142). -/
  | setSense (p : Port) (seq sense action target code polarity window blank qualify : Byte)
  /-- SET_SUPERVISOR (R143). -/
  | setSupervisor (p : Port) (seq port : Byte)
  /-- SET_SUPPLY (R143). -/
  | setSupply (p : Port) (seq settle : Byte)
  /-- READ_CONFIG (R144). -/
  | readConfig (p : Port) (seq kind index : Byte)
  /-- COMMIT (R145, R146). -/
  | commit (p : Port) (seq : Byte)
  /-- CLAIM (R12). -/
  | claim (p : Port) (seq unit : Byte) (period : Half) (mode : Byte) (limit : Half)
  /-- WITHDRAW (R15). -/
  | withdraw (p : Port) (seq unit : Byte)
  /-- RENEW (R16). -/
  | renew (p : Port) (seq unit : Byte)
  /-- RELEASE (R17). -/
  | release (p : Port) (seq unit option : Byte)
  /-- REVOKE (R21). -/
  | revoke (p : Port) (seq unit : Byte)
  /-- UNIT_STATUS (R23). -/
  | unitStatus (p : Port) (seq unit : Byte)
  /-- ENQUEUE (R41). -/
  | enqueue (p : Port) (seq leg : Byte) (raw : RawSegment)
  /-- FLUSH (R46, R47). -/
  | flush (p : Port) (seq leg option : Byte)
  /-- LEG_STATUS (R51). -/
  | legStatus (p : Port) (seq leg : Byte)
  /-- SENSE_STATUS (R92). -/
  | senseStatus (p : Port) (seq : Byte)
  /-- READ_TRIP (R110). -/
  | readTrip (p : Port) (seq unit : Byte)
  /-- CLEAR_TRIP (R105). -/
  | clearTrip (p : Port) (seq unit : Byte)
  /-- READ_FRAME (R157): the rise of chip select that ends a READ frame in which `clocked` whole
  bytes were clocked after the first byte 0x02. -/
  | readFrame (p : Port) (clocked : Nat)
  /-- ERROR_ENTRY (R153): the rise of chip select that ends a command frame of the whole bytes
  `bytes` and `bits` further bits, which fails a check of R152. -/
  | errorEntry (p : Port) (bytes : List Byte) (bits : Nat)
  /-- POWER_ON_RESET (R163). Bit k of `csLow` tells that CSn_k is low when the reset ends (R148). -/
  | powerOnReset (csLow : BitVec 4)
  /-- RST_N_RESET (R163), with the chip selects as for POWER_ON_RESET. -/
  | rstNReset (csLow : BitVec 4)
  /-- FAULT_N_LOW_SPELL (R102): a low FAULT_N sample, which begins a spell after a high one. -/
  | faultNLowSpell
  /-- SYNC_RISING_EDGE (R124): a SYNC sample, which is an edge when it is high after a low one. -/
  | syncRisingEdge (sample : Level)
  /-- SUPPLY_LEAVING_GOOD (R115), with the VG voltage of the sample in µV. -/
  | supplyLeavingGood (vg : Nat)
  /-- VG_HIGH_SAMPLE (R113), with the VG voltage of the sample in µV. -/
  | vgHighSample (vg : Nat)
  /-- VG_LOW_SAMPLE_SETTLING (R113), with the VG voltage of the sample in µV. -/
  | vgLowSampleSettling (vg : Nat)
  /-- SETTLE_TIMER_EXPIRY (R119). -/
  | settleTimerExpiry
  /-- TIMESTAMP_STEP (R121). -/
  | timestampStep
  /-- MILLISECOND_TICK (R122). -/
  | millisecondTick
  /-- LEASE_EXPIRY (R8, R9). -/
  | leaseExpiry (u : UnitNo)
  /-- QUIET_END (R6). -/
  | quietEnd (u : UnitNo)
  /-- CLAIM_TIMEOUT (R11): the end of the wait of port `p`. -/
  | claimTimeout (u : UnitNo) (p : Port)
  /-- SETUP_LOCK_INACTIVITY_EXPIRY (R135). -/
  | setupLockInactivityExpiry
  /-- AT_TIME_OPENING (R127). -/
  | atTimeOpening (l : Leg)
  /-- PERIOD_END (R36). -/
  | periodEnd (l : Leg)
  /-- DECISION_POINT (R38) of a continuous HOLD_LOW period. -/
  | decisionPoint (l : Leg)
  /-- LAYOUT_GATE_CHANGE (R60 to R62). -/
  | layoutGateChange (l : Leg)
  /-- DEAD_TIME_GUARD_EXPIRY (R57). -/
  | deadTimeGuardExpiry (l : Leg)
  /-- LEADING_DEAD_TIME_END (R66). -/
  | leadingDeadTimeEnd (l : Leg)
  /-- SENSE_SAMPLE (R79): the sample of one wu, with the voltages at SNSn and VREF in one unit. -/
  | senseSample (n : SenseNo) (sns vref : Nat)
  /-- CHIP_SELECT_FALL (R150). -/
  | chipSelectFall (p : Port)
  /-- FIRST_BYTE_WHOLE (R150, R151, R156). -/
  | firstByteWhole (p : Port) (b : Byte)
  /-- FAULT_N_RISE (R102): a high FAULT_N sample. -/
  | faultNRise
deriving DecidableEq, Repr

end Sys2Proof
end

