-- ==== Sys2Proof/Decode.lean ====
section
/-! DEFINITION. Command frames: the code and body length of every command (R168), the check byte
(R166), the checks of a frame (R152), and the reading and writing of a frame's body (R165, R169).

The rows of spec/opcode_table.json carry no bits, so `decodeTableWord` reads none of them (log 4);
the command rows are read from frames by `decodeFrame` instead. -/

namespace Sys2Proof

/-- The command a word of the opcode table's bits spells. No row of the table has bits, so no word
spells one (log 4). -/
def decodeTableWord (_nbits _w : Nat) : Option Instr := none

/-- The upper and the lower byte of a two-byte number, most significant first (R167). -/
def halfBytes (h : Half) : List Byte := [h.extractLsb' 8 8, h.extractLsb' 0 8]

/-- The four bytes of a timestamp or gate value, most significant first (R167). -/
def stampBytes (t : Stamp) : List Byte :=
  [t.extractLsb' 24 8, t.extractLsb' 16 8, t.extractLsb' 8 8, t.extractLsb' 0 8]

/-- The two-byte number of two bytes, most significant first (R167). -/
def halfOf (hi lo : Byte) : Half := hi ++ lo

/-- The four-byte number of four bytes, most significant first (R167). -/
def stampOf (b3 b2 b1 b0 : Byte) : Stamp := b3 ++ b2 ++ b1 ++ b0

/-- One step of the check-byte register (R166). -/
def crcStep (r : Byte) : Byte := if r.msb then (r <<< 1) ^^^ 0x07 else r <<< 1

/-- A byte combined into the register, which is then stepped eight times (R166). -/
def crcByte (r b : Byte) : Byte :=
  crcStep (crcStep (crcStep (crcStep (crcStep (crcStep (crcStep (crcStep (r ^^^ b))))))))

/-- The check byte over `bytes` (R166). -/
def crc8 (bytes : List Byte) : Byte := bytes.foldl crcByte 0x00

/-- The command code (R168). -/
def commandCode : Command → Byte
  | .ident => 0x01
  | .portReset => 0x03
  | .readTime => 0x04
  | .openSetup => 0x10
  | .closeSetup => 0x11
  | .setUnitMap => 0x12
  | .setLeg => 0x13
  | .setUnit => 0x14
  | .setSense => 0x15
  | .setSupervisor => 0x16
  | .setSupply => 0x17
  | .readConfig => 0x18
  | .commit => 0x1F
  | .claim => 0x20
  | .withdraw => 0x21
  | .renew => 0x22
  | .release => 0x23
  | .revoke => 0x24
  | .unitStatus => 0x25
  | .enqueue => 0x30
  | .flush => 0x31
  | .legStatus => 0x32
  | .senseStatus => 0x40
  | .readTrip => 0x41
  | .clearTrip => 0x42

/-- The command of a code the part knows (R152 check 4, R168). -/
def commandOfCode (b : Byte) : Option Command :=
  if b = 0x01 then some .ident
  else if b = 0x03 then some .portReset
  else if b = 0x04 then some .readTime
  else if b = 0x10 then some .openSetup
  else if b = 0x11 then some .closeSetup
  else if b = 0x12 then some .setUnitMap
  else if b = 0x13 then some .setLeg
  else if b = 0x14 then some .setUnit
  else if b = 0x15 then some .setSense
  else if b = 0x16 then some .setSupervisor
  else if b = 0x17 then some .setSupply
  else if b = 0x18 then some .readConfig
  else if b = 0x1F then some .commit
  else if b = 0x20 then some .claim
  else if b = 0x21 then some .withdraw
  else if b = 0x22 then some .renew
  else if b = 0x23 then some .release
  else if b = 0x24 then some .revoke
  else if b = 0x25 then some .unitStatus
  else if b = 0x30 then some .enqueue
  else if b = 0x31 then some .flush
  else if b = 0x32 then some .legStatus
  else if b = 0x40 then some .senseStatus
  else if b = 0x41 then some .readTrip
  else if b = 0x42 then some .clearTrip
  else none

/-- The one body length each command requires (R168). -/
def bodyLength : Command → Nat
  | .ident => 0
  | .portReset => 0
  | .readTime => 0
  | .openSetup => 0
  | .closeSetup => 0
  | .setUnitMap => 4
  | .setLeg => 11
  | .setUnit => 6
  | .setSense => 8
  | .setSupervisor => 1
  | .setSupply => 1
  | .readConfig => 2
  | .commit => 0
  | .claim => 6
  | .withdraw => 1
  | .renew => 1
  | .release => 2
  | .revoke => 1
  | .unitStatus => 1
  | .enqueue => 16
  | .flush => 2
  | .legStatus => 1
  | .senseStatus => 0
  | .readTrip => 1
  | .clearTrip => 1

/-- The most body bytes, and the most bytes, of a command frame (R151, R152 check 2). -/
def maxBody : Nat := 27
def maxFrame : Nat := 31

/-- The first byte of a READ frame (R151). -/
def readCode : Byte := 0x02

/-- The count of whole bytes received, 255 standing for 255 or more (R151). -/
def receivedCount (bytes : List Byte) : Nat := min 255 bytes.length

/-- The first check of R152 that a frame fails, if any. `bytes` are the bytes kept, at most 31;
`count` is the number of whole bytes received and `bits` the bits beyond them (R151). -/
def frameCheck (bytes : List Byte) (count bits : Nat) : Option FrameError :=
  match bytes with
  | code :: _ :: len :: _ :: _ =>
    if count < 4 ∨ bits ≠ 0 then some .frame
    else if maxBody < len.toNat ∨ count ≠ len.toNat + 4 then some .frame
    else if crc8 bytes.dropLast ≠ bytes.getLastD 0x00 then some .check
    else
      match commandOfCode code with
      | none => some .unknown
      | some c => if bodyLength c ≠ len.toNat then some .length else none
  | _ => some .frame

/-- A frame that ERROR_ENTRY answers: no READ frame (R151), fewer than eight bits beyond its last
whole byte (R149), and failing a check of R152. -/
def errorFrameOk (bytes : List Byte) (bits : Nat) : Bool :=
  decide (bits < 8) && decide (bytes.head? ≠ some readCode) &&
    (frameCheck (bytes.take maxFrame) (receivedCount bytes) bits).isSome

/-- The row that command `c` with sequence byte `seq` and the given body is (R168, R169); none when
the body has not the command's length. -/
def decodeBody (p : Port) (seq : Byte) (c : Command) (body : List Byte) : Option Instr :=
  match c, body with
  | .ident, [] => some (.ident p seq)
  | .portReset, [] => some (.portReset p seq)
  | .readTime, [] => some (.readTime p seq)
  | .openSetup, [] => some (.openSetup p seq)
  | .closeSetup, [] => some (.closeSetup p seq)
  | .setUnitMap, [u0, u1, u2, u3] => some (.setUnitMap p seq u0 u1 u2 u3)
  | .setLeg, [leg, kind, d1, d0, n1, n0, x1, x0, idle, low, esc] =>
      some (.setLeg p seq leg kind (halfOf d1 d0) (halfOf n1 n0) (halfOf x1 x0) idle low esc)
  | .setUnit, [unit, allowed, q1, q0, m1, m0] =>
      some (.setUnit p seq unit allowed (halfOf q1 q0) (halfOf m1 m0))
  | .setSense, [sense, action, target, code, polarity, window, blank, qualify] =>
      some (.setSense p seq sense action target code polarity window blank qualify)
  | .setSupervisor, [port] => some (.setSupervisor p seq port)
  | .setSupply, [settle] => some (.setSupply p seq settle)
  | .readConfig, [kind, index] => some (.readConfig p seq kind index)
  | .commit, [] => some (.commit p seq)
  | .claim, [unit, p1, p0, mode, w1, w0] =>
      some (.claim p seq unit (halfOf p1 p0) mode (halfOf w1 w0))
  | .withdraw, [unit] => some (.withdraw p seq unit)
  | .renew, [unit] => some (.renew p seq unit)
  | .release, [unit, option] => some (.release p seq unit option)
  | .revoke, [unit] => some (.revoke p seq unit)
  | .unitStatus, [unit] => some (.unitStatus p seq unit)
  | .enqueue, [leg, mode, p1, p0, o1, o0, c1, c0, tag, flags, sgn, mag, g3, g2, g1, g0] =>
      some (.enqueue p seq leg
        ⟨mode, halfOf p1 p0, halfOf o1 o0, halfOf c1 c0, tag, flags, sgn, mag, stampOf g3 g2 g1 g0⟩)
  | .flush, [leg, option] => some (.flush p seq leg option)
  | .legStatus, [leg] => some (.legStatus p seq leg)
  | .senseStatus, [] => some (.senseStatus p seq)
  | .readTrip, [unit] => some (.readTrip p seq unit)
  | .clearTrip, [unit] => some (.clearTrip p seq unit)
  | _, _ => none

/-- The command a received frame is, or the result that refuses it (R152). -/
def decodeFrame (p : Port) (bytes : List Byte) (bits : Nat) : Except FrameError Instr :=
  match frameCheck (bytes.take maxFrame) (receivedCount bytes) bits with
  | some e => .error e
  | none =>
    match bytes with
    | code :: seq :: _ :: rest =>
      match commandOfCode code with
      | none => .error .unknown
      | some c =>
        match decodeBody p seq c rest.dropLast with
        | some i => .ok i
        | none => .error .length
    | _ => .error .frame

/-- The port, command, sequence byte and body of a command row (R168, R169); none for an event. -/
def commandParts : Instr → Option (Port × Command × Byte × List Byte)
  | .ident p seq => some (p, .ident, seq, [])
  | .portReset p seq => some (p, .portReset, seq, [])
  | .readTime p seq => some (p, .readTime, seq, [])
  | .openSetup p seq => some (p, .openSetup, seq, [])
  | .closeSetup p seq => some (p, .closeSetup, seq, [])
  | .setUnitMap p seq u0 u1 u2 u3 => some (p, .setUnitMap, seq, [u0, u1, u2, u3])
  | .setLeg p seq leg kind dt minOn maxOn idle lowWater escalation =>
      some (p, .setLeg, seq, [leg, kind] ++ halfBytes dt ++ halfBytes minOn ++ halfBytes maxOn ++ [idle, lowWater, escalation])
  | .setUnit p seq unit allowed quiet maxLease =>
      some (p, .setUnit, seq, [unit, allowed] ++ halfBytes quiet ++ halfBytes maxLease)
  | .setSense p seq sense action target code polarity window blank qualify =>
      some (p, .setSense, seq, [sense, action, target, code, polarity, window, blank, qualify])
  | .setSupervisor p seq port => some (p, .setSupervisor, seq, [port])
  | .setSupply p seq settle => some (p, .setSupply, seq, [settle])
  | .readConfig p seq kind index => some (p, .readConfig, seq, [kind, index])
  | .commit p seq => some (p, .commit, seq, [])
  | .claim p seq unit period mode limit =>
      some (p, .claim, seq, [unit] ++ halfBytes period ++ [mode] ++ halfBytes limit)
  | .withdraw p seq unit => some (p, .withdraw, seq, [unit])
  | .renew p seq unit => some (p, .renew, seq, [unit])
  | .release p seq unit option => some (p, .release, seq, [unit, option])
  | .revoke p seq unit => some (p, .revoke, seq, [unit])
  | .unitStatus p seq unit => some (p, .unitStatus, seq, [unit])
  | .enqueue p seq leg raw =>
      some (p, .enqueue, seq, [leg, raw.mode] ++ halfBytes raw.period ++ halfBytes raw.onTime ++ halfBytes raw.count ++
        [raw.tag, raw.flags, raw.stepSign, raw.stepMagnitude] ++ stampBytes raw.gateValue)
  | .flush p seq leg option => some (p, .flush, seq, [leg, option])
  | .legStatus p seq leg => some (p, .legStatus, seq, [leg])
  | .senseStatus p seq => some (p, .senseStatus, seq, [])
  | .readTrip p seq unit => some (p, .readTrip, seq, [unit])
  | .clearTrip p seq unit => some (p, .clearTrip, seq, [unit])
  | .readFrame _ _ => none
  | .errorEntry _ _ _ => none
  | .powerOnReset _ => none
  | .rstNReset _ => none
  | .faultNLowSpell => none
  | .syncRisingEdge _ => none
  | .supplyLeavingGood _ => none
  | .vgHighSample _ => none
  | .vgLowSampleSettling _ => none
  | .settleTimerExpiry => none
  | .timestampStep => none
  | .millisecondTick => none
  | .leaseExpiry _ => none
  | .quietEnd _ => none
  | .claimTimeout _ _ => none
  | .setupLockInactivityExpiry => none
  | .atTimeOpening _ => none
  | .periodEnd _ => none
  | .decisionPoint _ => none
  | .layoutGateChange _ => none
  | .deadTimeGuardExpiry _ => none
  | .leadingDeadTimeEnd _ => none
  | .senseSample _ _ _ => none
  | .chipSelectFall _ => none
  | .firstByteWhole _ _ => none
  | .faultNRise => none

/-- A command frame: code, sequence byte, body length, body, check byte (R165, R166). -/
def frameBytes (c : Command) (seq : Byte) (body : List Byte) : List Byte :=
  let head := [commandCode c, seq, BitVec.ofNat 8 body.length] ++ body
  head ++ [crc8 head]

/-- The frame of a command row; none for an event. -/
def encodeFrame (i : Instr) : Option (List Byte) :=
  match commandParts i with
  | some (_, c, seq, body) => some (frameBytes c seq body)
  | none => none

end Sys2Proof
end

