-- ==== Sys2Proof/Config.lean ====
section
/-! DEFINITION. What one part fixes and the spec leaves within bounds: the VG thresholds
(section 1.5). The two constants have no value here; only the bounds of the table are given. -/

namespace Sys2Proof.Config

/-- The falling threshold VG_LOW of this part in µV; section 1.5 says only that it lies within
1.10 V to 1.20 V. A free value (DESIGN CHOICE, log 9): it is read only for a voltage within those
bounds. -/
opaque vgLow : Nat
/-- The rising threshold VG_OK of this part in µV; section 1.5 says only that it lies within
1.30 V to 1.40 V. A free value (DESIGN CHOICE, log 9): it is read only for a voltage within those
bounds. -/
opaque vgOk : Nat

/-- The bounds of VG_LOW in µV (section 1.5). -/
def vgLowMin : Nat := 1100000
def vgLowMax : Nat := 1200000
/-- The bounds of VG_OK in µV (section 1.5). -/
def vgOkMin : Nat := 1300000
def vgOkMax : Nat := 1400000

/-- The waveform clocks in one microsecond (R121). -/
def wuPerStep : Nat := 20
/-- The timestamp steps in one millisecond (R122). -/
def stepsPerTick : Nat := 1000
/-- The inactivity limit of the setup lock in ms (R134). -/
def lockLimit : Nat := 2000
/-- The reply queue's room for entries, and for notices (R154). -/
def queueRoom : Nat := 8
def noticeRoom : Nat := 7
/-- The pending queue's room (R30). -/
def pendingRoom : Nat := 16

end Sys2Proof.Config
end

