-- ==== Sys2Proof/Machine/State.lean ====
section
/-! DEFINITION. The state of the part: every record the spec gives its nine blocks, as plain data,
and the state after a power-on reset. Where the spec makes one thing a view of another (sequencer
state, presence of a unit, ATTN_k), the one is stored and the other computed. -/

namespace Sys2Proof.Machine

/-! ### The board table (R131, R132) -/

/-- The device phase (R131). -/
inductive Phase where
  | setup | run
deriving DecidableEq, Repr

/-- Leg kinds (R54). -/
inductive LegKind where
  | halfBridge | highSide | lowSide
deriving DecidableEq, Repr

/-- Idle levels (R65). -/
inductive IdleLevel where
  | off | low
deriving DecidableEq, Repr

/-- What a qualified activation does (R83). -/
inductive Action where
  | none | note | cycle | latch
deriving DecidableEq, Repr

/-- Which side of the reference reads active (R77). -/
inductive Polarity where
  | above | below
deriving DecidableEq, Repr

/-- When samples count (R80). -/
inductive Window where
  | highOn | lowOn | any
deriving DecidableEq, Repr

/-- A leg entry of the board table; times in wu (R140). -/
structure LegEntry where
  kind : LegKind
  dt : Nat
  minOn : Nat
  maxOn : Nat
  idle : IdleLevel
  lowWater : Nat
  escalation : Nat
deriving DecidableEq, Repr

/-- A unit entry of the board table: one mark per allowed port, quiet time in µs, max lease in ms
(R141). -/
structure UnitEntry where
  allowed : Four Bool
  quiet : Nat
  maxLease : Nat
deriving DecidableEq, Repr

/-- A sense entry of the board table; the blank time is in wu (R142). -/
structure SenseEntry where
  action : Action
  target : Leg
  threshold : Nat
  polarity : Polarity
  window : Window
  blank : Nat
  qualify : Nat
deriving DecidableEq, Repr

/-- The board table: leg, unit and sense entries, the unit of each leg, the supervisor port and the
supply settle time in ms (R132). -/
structure Board where
  legs : Four LegEntry
  units : Four UnitEntry
  senses : Eight SenseEntry
  unitMap : Four UnitNo
  supervisor : Option Port
  settle : Nat
deriving DecidableEq, Repr

/-- The Setup Controller's state: phase, lock holder, inactivity remaining in ms, board table. -/
structure Setup where
  phase : Phase
  holder : Option Port
  inactivity : Nat
  board : Board
deriving DecidableEq, Repr

/-! ### Unit records (R1, R2, R10) -/

/-- Lease states (R2). -/
inductive LeaseState where
  | free | held | releasing | quiet
deriving DecidableEq, Repr

/-- A wait entry; the remaining wait is present when a wait limit is (R11). Times in ms. -/
structure WaitEntry where
  port : Port
  period : Nat
  limit : Option Nat
  remaining : Option Nat
  claimedAt : Stamp
deriving DecidableEq, Repr

/-- A unit record; lease times in ms, the quiet timer in µs (R2 to R7). -/
structure UnitRec where
  lease : LeaseState
  owner : Option Port
  releasing : Option Port
  period : Option Nat
  remaining : Nat
  leaseLowArmed : Bool
  quiet : Nat
  wait : List WaitEntry
deriving DecidableEq, Repr

/-! ### Leg sequencers (R29 to R32, R71) -/

/-- Segment modes (R29). -/
inductive Mode where
  | complementary | highOnly | lowOnly | holdLow | off
deriving DecidableEq, Repr

/-- Start gates (R29). -/
inductive StartGate where
  | atTime (t : Stamp)
  | onSync (k : Nat)
deriving DecidableEq, Repr

/-- A segment record (R29); period, on-time and step in wu, count 0 for a continuous segment. -/
structure Segment where
  mode : Mode
  period : Nat
  onTime : Nat
  count : Nat
  tag : Byte
  notify : Bool
  step : Option Int
  gate : Option StartGate
deriving DecidableEq, Repr

/-- The start-gate state of a GATED segment (R31). -/
inductive GateState where
  | waiting
  | edges (needed : Nat)
deriving DecidableEq, Repr

/-- The active segment with its progress (R31). Its start-gate state is present while it is GATED
and removed when the gate opens (R128). -/
structure Active where
  seg : Segment
  completed : Nat
  onTime : Nat
  late : Bool
  gate : Option GateState
deriving DecidableEq, Repr

/-- Sequencer states (R33 to R36), computed from the active segment. -/
inductive SeqState where
  | idle | gated | running
deriving DecidableEq, Repr

/-- A leg sequencer: pending queue (head first), active segment, low-water armed flag, escalation
counter, cut-seen flag, last cut sense (R30 to R32, R40, R71). -/
structure LegSeq where
  queue : List Segment
  active : Option Active
  lowArmed : Bool
  escalation : Nat
  cutSeen : Bool
  lastCut : Option SenseNo
deriving DecidableEq, Repr

/-! ### The Gate Output Stage (R54 to R69) -/

/-- The two gates of a leg. -/
inductive Gate where
  | gh | gl
deriving DecidableEq, Repr

/-- The gates that may not turn on until the dead time has elapsed (R57). -/
inductive Guarded where
  | none | gh | gl | both
deriving DecidableEq, Repr

/-- The period being played or about to be played (R59). `cut` is the position of this period's
cycle cut (R69) and `judged` tells that its decision point has been taken (R38); both are the
model's own (log 18). -/
structure Layout where
  mode : Mode
  period : Nat
  onTime : Nat
  final : Bool
  cut : Option Nat
  judged : Bool
deriving DecidableEq, Repr

/-- The stage state, with the layout in LEADING and PLAYING and the position in PLAYING. -/
inductive StageState where
  | forced
  | resting
  | leading (l : Layout)
  | playing (l : Layout) (position : Nat)
  | waiting
deriving DecidableEq, Repr

/-- The gates as they stood during one wu, which a sample of that wu is judged against (R79). A
blanking count is none when expired (R68). -/
structure GateView where
  gh : Bool
  gl : Bool
  ghBlank : Option Nat
  glBlank : Option Nat
deriving DecidableEq, Repr

/-- The stage record of a leg (R55). `fromIdleLow` tells that the take turned GL off from the idle
level LOW, so that the leading dead time of R66 counts (the model's own, log 18); `seen` is the view
of the latest whole wu (the model's own, log 11). -/
structure Stage where
  state : StageState
  gh : Bool
  gl : Bool
  deadTimer : Nat
  guarded : Guarded
  ghBlank : Option Nat
  glBlank : Option Nat
  fromIdleLow : Bool
  seen : GateView
deriving DecidableEq, Repr

/-! ### Sense inputs, trips, supply, timebase -/

/-- The working state of a sense input (R75). -/
structure SenseRec where
  raw : Level
  armed : Bool
  count : Nat
  qualified : Bool
  rearm : Bool
deriving DecidableEq, Repr

/-- Trip causes (R97). -/
inductive Cause where
  | sense (n : SenseNo)
  | escalated (n : SenseNo)
  | external
deriving DecidableEq, Repr

/-- What a trip records (R98). -/
structure TripInfo where
  cause : Cause
  leg : Option Leg
  stamp : Stamp
  tag : Option Byte
  owner : Option Port
  discarded : Nat
deriving DecidableEq, Repr

/-- A trip record: TRIPPED exactly while it holds a first cause (R96). Bit n of `laterSenses`
stands for SENSE(n) among the later causes (R101). -/
structure TripRec where
  info : Option TripInfo
  laterSenses : BitVec 8
  laterExternal : Bool
deriving DecidableEq, Repr

/-- Supply states (R112). -/
inductive SupplyState where
  | down | settling | good
deriving DecidableEq, Repr

/-- The Supply Monitor: supply state and settle timer in ms. -/
structure Supply where
  state : SupplyState
  timer : Nat
deriving DecidableEq, Repr

/-- The Timebase (R121 to R124). `wu` counts the waveform clocks since the latest step and
`ticksDue` the millisecond ticks drawn and not yet taken (the model's own, log 5). -/
structure Timebase where
  stamp : Stamp
  subMs : Nat
  syncCount : Half
  syncLast : Option Level
  wu : Nat
  ticksDue : Nat
deriving DecidableEq, Repr

/-! ### Controller ports (R148) -/

/-- The result codes of replies (R170). -/
inductive Result where
  | ok | granted | queued | inProgress
  | notRunning | notSetup | setupBusy | notHolder | invalidTable
  | noSuch | range | denied | busy | duplicate | alreadyOwner | notWaiting | notOwner
  | notSupervisor | nothingToRevoke
  | tripped | full | supplyLow | notTripped | stillActive
deriving DecidableEq, Repr

/-- Why a lease was lost (R27). -/
inductive LossReason where
  | expired | revoked
deriving DecidableEq, Repr

/-- The notices with the data each carries (R27, R52, R85, R99, R116, R119). -/
inductive Notice where
  | granted (u : UnitNo) (period : Nat) (tripped : Bool) (claimedAt : Stamp)
  | claimTimeout (u : UnitNo)
  | leaseLow (u : UnitNo) (remaining : Nat)
  | leaseLost (u : UnitNo) (reason : LossReason)
  | releaseDone (u : UnitNo)
  | segmentDone (l : Leg) (tag : Byte) (late : Bool) (completed : Nat)
  | queueLow (l : Leg) (count : Nat)
  | legIdle (l : Leg) (tag : Byte)
  | tripped (u : UnitNo) (cause : Cause) (leg : Option Leg) (tag : Option Byte) (discarded : Nat)
  | senseEvent (n : SenseNo) (l : Leg)
  | supplyLow (discarded : Four Nat)
  | supplyGood
deriving DecidableEq, Repr

/-- A queue entry (R153, R154): a reply echoing its command and sequence byte, a notice with its
timestamp, or an ERROR entry. -/
inductive Entry where
  | reply (c : Command) (seq : Byte) (result : Result) (data : List Byte)
  | notice (n : Notice) (stamp : Stamp)
  | error (result : FrameError) (received : Nat) (first second : Byte)
deriving DecidableEq, Repr

/-- The transaction state of a port (port record table, R150, R151). -/
inductive TxnState where
  | idle | firstByte | command | read
deriving DecidableEq, Repr

/-- What a READ frame shifts out (R156). -/
inductive Chosen where
  | none
  | empty
  | entry (e : Entry)
deriving DecidableEq, Repr

/-- The five items of the status byte (R150). -/
structure StatusItems where
  count : Nat
  dropped : Bool
  missed : Bool
  supplyGood : Bool
  phaseRun : Bool
deriving DecidableEq, Repr

/-- The port record (R148). `awaitRise`: CSn_k has been low since a reset (R148). `missedAnew`:
MISSED was set anew since the fall of chip select (R158; the model's own, log 12). `shifted`: the
whole bytes the latest finished transaction shifted out on SDO_k (the model's own, log 19). -/
structure PortRec where
  queue : List Entry
  dropped : Bool
  missed : Bool
  droppedShown : Bool
  missedShown : Bool
  txn : TxnState
  captured : StatusItems
  buffer : List Byte
  byteCount : Nat
  bitCount : Nat
  chosen : Chosen
  awaitRise : Bool
  missedAnew : Bool
  shifted : List Byte
deriving DecidableEq, Repr

/-- The last reset cause (R163). -/
inductive ResetCause where
  | powerOn | pin
deriving DecidableEq, Repr

/-! ### The whole part -/

/-- The state of the part, and the queue of the rows waiting to be taken, first in first out. -/
structure State where
  pending : List Instr
  ports : Four PortRec
  cause : ResetCause
  setup : Setup
  units : Four UnitRec
  seqs : Four LegSeq
  stages : Four Stage
  senses : Eight SenseRec
  trips : Four TripRec
  faultN : Level
  supply : Supply
  time : Timebase
deriving DecidableEq, Repr

/-- No row ends in a fault: the spec answers every misuse and the part goes on (R155, R164). -/
inductive Fault
deriving DecidableEq, Repr

/-- Reasons to refuse a row. -/
inductive Refusal where
  /-- The row has no meaning in the model yet. Raised by `exec`'s arm alone; safe: nothing is
  claimed of the row. No arm raises it. -/
  | notModelled (mnemonic : String)
deriving DecidableEq, Repr

/-! ### Reset values -/

/-- R132: a leg entry's defaults. -/
def LegEntry.reset : LegEntry :=
  { kind := .halfBridge, dt := 20, minOn := 10, maxOn := 65535, idle := .off, lowWater := 2,
    escalation := 0 }

/-- R132: a unit entry's defaults. -/
def UnitEntry.reset : UnitEntry :=
  { allowed := ⟨true, true, true, true⟩, quiet := 1000, maxLease := 10000 }

/-- R75, R132: a sense entry's defaults for target leg `l`. -/
def SenseEntry.reset (l : Leg) : SenseEntry :=
  { action := .none, target := l, threshold := 32, polarity := .above, window := .any, blank := 0,
    qualify := 4 }

/-- R132: the default board table. Sn targets L(n mod 4). -/
def Board.reset : Board :=
  { legs := ⟨.reset, .reset, .reset, .reset⟩
    units := ⟨.reset, .reset, .reset, .reset⟩
    senses := ⟨.reset 0, .reset 1, .reset 2, .reset 3, .reset 0, .reset 1, .reset 2, .reset 3⟩
    unitMap := ⟨0, 1, 2, 3⟩
    supervisor := none
    settle := 10 }

/-- R131, R132: the Setup Controller after reset. -/
def Setup.reset : Setup :=
  { phase := .setup, holder := none, inactivity := 0, board := .reset }

/-- R1: the reset values of a unit record. -/
def UnitRec.reset : UnitRec :=
  { lease := .free, owner := none, releasing := none, period := none, remaining := 0,
    leaseLowArmed := false, quiet := 0, wait := [] }

/-- R32, R72: the reset values of a leg sequencer. -/
def LegSeq.reset : LegSeq :=
  { queue := [], active := none, lowArmed := false, escalation := 0, cutSeen := false,
    lastCut := none }

/-- R55: the reset values of a stage record. -/
def Stage.reset : Stage :=
  { state := .forced, gh := false, gl := false, deadTimer := 0, guarded := .both, ghBlank := none,
    glBlank := none, fromIdleLow := false
    seen := { gh := false, gl := false, ghBlank := none, glBlank := none } }

/-- R75: the reset values of a sense input. The raw level before the first sample is not stated:
LOW (DESIGN CHOICE, log 10). -/
def SenseRec.reset : SenseRec :=
  { raw := .low, armed := false, count := 0, qualified := false, rearm := true }

/-- R95: the reset values of a trip record. -/
def TripRec.reset : TripRec := { info := none, laterSenses := 0, laterExternal := false }

/-- R148: the reset values of a port record. The captured status before the first transaction is
not stated: zeros (DESIGN CHOICE, log 13). -/
def PortRec.reset : PortRec :=
  { queue := [], dropped := false, missed := false, droppedShown := false, missedShown := false
    txn := .idle
    captured :=
      { count := 0, dropped := false, missed := false, supplyGood := false, phaseRun := false }
    buffer := [], byteCount := 0, bitCount := 0, chosen := .none, awaitRise := false
    missedAnew := false, shifted := [] }

/-- R121, R129: the Timebase after reset. -/
def Timebase.reset : Timebase :=
  { stamp := 0, subMs := 0, syncCount := 0, syncLast := none, wu := 0, ticksDue := 0 }

/-- The part after a power-on reset, every chip select high and no row waiting. The FAULT_N level
before the first sample is not stated: high (DESIGN CHOICE, log 7). -/
def State.reset : State :=
  { pending := []
    ports := ⟨.reset, .reset, .reset, .reset⟩
    cause := .powerOn
    setup := .reset
    units := ⟨.reset, .reset, .reset, .reset⟩
    seqs := ⟨.reset, .reset, .reset, .reset⟩
    stages := ⟨.reset, .reset, .reset, .reset⟩
    senses := ⟨.reset, .reset, .reset, .reset, .reset, .reset, .reset, .reset⟩
    trips := ⟨.reset, .reset, .reset, .reset⟩
    faultN := .high
    supply := { state := .down, timer := 0 }
    time := .reset }

end Sys2Proof.Machine
end

