-- ==== Sys2Proof/Machine/Ops.lean ====
section
/-! DEFINITION. Named reads and writes of the part's records, and the reply queues: which entry is
admitted, and the placing of replies and notices (R154, R155). -/

namespace Sys2Proof.Machine

/-! ### Reading the records -/

/-- The board table (R132). -/
def State.board (s : State) : Board := s.setup.board
/-- The board table's entry of leg `l`. -/
def State.legEntry (s : State) (l : Leg) : LegEntry := s.setup.board.legs.get l
/-- The board table's entry of unit `u`. -/
def State.unitEntry (s : State) (u : UnitNo) : UnitEntry := s.setup.board.units.get u
/-- The board table's entry of sense input `n`. -/
def State.senseEntry (s : State) (n : SenseNo) : SenseEntry := s.setup.board.senses.get n
/-- The unit the unit map assigns leg `l` to (R139). -/
def State.unitOf (s : State) (l : Leg) : UnitNo := s.setup.board.unitMap.get l
/-- R1: a unit is present while the unit map assigns at least one leg to it. -/
def unitPresent (map : Four UnitNo) (u : UnitNo) : Bool := four.any (fun l => map.get l == u)
/-- Whether unit `u` is present (R1). -/
def State.present (s : State) (u : UnitNo) : Bool := unitPresent s.setup.board.unitMap u
/-- The record of unit `u`. -/
def State.unit (s : State) (u : UnitNo) : UnitRec := s.units.get u
/-- The trip record of unit `u`. -/
def State.trip (s : State) (u : UnitNo) : TripRec := s.trips.get u
/-- The sequencer of leg `l`. -/
def State.seq (s : State) (l : Leg) : LegSeq := s.seqs.get l
/-- The stage record of leg `l`. -/
def State.stage (s : State) (l : Leg) : Stage := s.stages.get l
/-- The record of port `p`. -/
def State.port (s : State) (p : Port) : PortRec := s.ports.get p
/-- The working state of sense input `n`. -/
def State.sense (s : State) (n : SenseNo) : SenseRec := s.senses.get n

/-- A trip record is TRIPPED exactly while it holds a first cause (R96). -/
def TripRec.tripped (t : TripRec) : Bool := t.info.isSome
/-- Whether unit `u` is TRIPPED. -/
def State.tripped (s : State) (u : UnitNo) : Bool := (s.trip u).tripped

/-- The holder of a unit: the owner in HELD, the releasing port in RELEASING, else none (R5, R23). -/
def UnitRec.holder (r : UnitRec) : Option Port :=
  match r.lease with
  | .held => r.owner
  | .releasing => r.releasing
  | .free => none
  | .quiet => none

/-- Port `p` is the owner, and the unit is then HELD (R2). -/
def UnitRec.ownedBy (r : UnitRec) (p : Port) : Bool := decide (r.lease = .held ∧ r.owner = some p)
/-- Port `p` is the releasing port, and the unit is then RELEASING (R2). -/
def UnitRec.releasedBy (r : UnitRec) (p : Port) : Bool :=
  decide (r.lease = .releasing ∧ r.releasing = some p)

/-- R33 to R35: IDLE without an active segment, GATED while its start gate is not open, else
RUNNING. -/
def LegSeq.state (q : LegSeq) : SeqState :=
  match q.active with
  | none => .idle
  | some a => if a.gate.isSome then .gated else .running

/-- R45: IDLE with an empty pending queue. -/
def LegSeq.idleEmpty (q : LegSeq) : Bool := q.active.isNone && q.queue.isEmpty

/-! ### Writing the records -/

/-- The state with the record of port `p` replaced. -/
def State.setPort (s : State) (p : Port) (r : PortRec) : State := { s with ports := s.ports.set p r }
/-- The state with the record of unit `u` replaced. -/
def State.setUnit (s : State) (u : UnitNo) (r : UnitRec) : State :=
  { s with units := s.units.set u r }
/-- The state with the sequencer of leg `l` replaced. -/
def State.setSeq (s : State) (l : Leg) (q : LegSeq) : State := { s with seqs := s.seqs.set l q }
/-- The state with the stage record of leg `l` replaced. -/
def State.setStage (s : State) (l : Leg) (st : Stage) : State :=
  { s with stages := s.stages.set l st }
/-- The state with the working state of sense input `n` replaced. -/
def State.setSenseRec (s : State) (n : SenseNo) (r : SenseRec) : State :=
  { s with senses := s.senses.set n r }
/-- The state with the trip record of unit `u` replaced. -/
def State.setTrip (s : State) (u : UnitNo) (t : TripRec) : State :=
  { s with trips := s.trips.set u t }
/-- The state with the board table replaced. -/
def State.setBoard (s : State) (b : Board) : State := { s with setup := { s.setup with board := b } }
/-- The state with the lock holder and its inactivity timer replaced (R134). -/
def State.setLock (s : State) (h : Option Port) (ms : Nat) : State :=
  { s with setup := { s.setup with holder := h, inactivity := ms } }
/-- The state with the stage records replaced. -/
def State.setStages (s : State) (t : Four Stage) : State := { s with stages := t }
/-- The state with the leg sequencers replaced. -/
def State.setSeqs (s : State) (t : Four LegSeq) : State := { s with seqs := t }
/-- The state with the unit records replaced. -/
def State.setUnits (s : State) (t : Four UnitRec) : State := { s with units := t }
/-- The state with the Supply Monitor's state replaced. -/
def State.setSupplyRec (s : State) (v : Supply) : State := { s with supply := v }
/-- The state with the Timebase's state replaced. -/
def State.setTime (s : State) (t : Timebase) : State := { s with time := t }

/-! ### The reply queue (R154) -/

/-- An entry is a notice, or else a reply or an ERROR entry. -/
def Entry.isNotice : Entry → Bool
  | .notice _ _ => true
  | .reply _ _ _ _ => false
  | .error _ _ _ _ => false

/-- The number of notices in a reply queue. -/
def noticeCount (q : List Entry) : Nat := q.countP Entry.isNotice

/-- R154: a reply or ERROR entry is admitted while the queue holds fewer than 8 entries. -/
def PortRec.hasRoom (r : PortRec) : Bool := decide (r.queue.length < Config.queueRoom)

/-- R154: a notice is admitted while the queue holds fewer than 8 entries and fewer than 7
notices. -/
def PortRec.admitsNotice (r : PortRec) : Bool :=
  decide (r.queue.length < Config.queueRoom ∧ noticeCount r.queue < Config.noticeRoom)

/-- The port with an admitted entry at the tail. -/
def PortRec.append (r : PortRec) (e : Entry) : PortRec := { r with queue := r.queue ++ [e] }

/-- R154: a notice is lost; MISSED is set and its shown mark becomes no. -/
def PortRec.loseNotice (r : PortRec) : PortRec :=
  { r with missed := true, missedShown := false, missedAnew := true }

/-- R154: a notice offered to a port's queue. -/
def PortRec.offer (r : PortRec) (n : Notice) (t : Stamp) : PortRec :=
  if r.admitsNotice then r.append (.notice n t) else r.loseNotice

/-- The reply of a taken command at the tail of the port's queue; R155 checked its room. -/
def State.place (s : State) (p : Port) (e : Entry) : State := s.setPort p ((s.port p).append e)

/-- A notice placed for port `p`, with the timestamp at the event (R123, R154). -/
def State.notify (s : State) (p : Port) (n : Notice) : State :=
  s.setPort p ((s.port p).offer n s.time.stamp)

/-- A notice placed for the port named, if one is. -/
def State.notifyOpt (s : State) (p : Option Port) (n : Notice) : State :=
  match p with
  | some p => s.notify p n
  | none => s

/-- A notice placed for two recipients, one copy when they are the same port (R85, R99). -/
def State.notifyBoth (s : State) (a b : Option Port) (n : Notice) : State :=
  if a = b then s.notifyOpt a n else (s.notifyOpt a n).notifyOpt b n

/-- A notice placed for each of ports 0 to 3, in that order (R116, R119). -/
def State.broadcast (s : State) (n : Notice) : State := four.foldl (fun s p => s.notify p n) s

end Sys2Proof.Machine
end

