-- ==== Sys2Proof/Machine/Flags.lean ====
section
/-! DEFINITION. The flags of the part: the status byte and the port flags DROPPED and MISSED with
their shown marks (R150, R153, R158), ATTN_k (R159), the LEASE_LOW threshold (R7), and the four
conditions of drive permission (R56). -/

namespace Sys2Proof.Machine

/-- A flag as one bit of a byte. -/
def bitOf (b : Bool) (k : Nat) : Byte := if b then (1 : Byte) <<< k else 0

/-- R165: the status byte, with the queue count in bits 7 to 4. -/
def statusByte (i : StatusItems) : Byte :=
  (BitVec.ofNat 8 i.count <<< 4) ||| bitOf i.dropped 3 ||| bitOf i.missed 2 |||
    bitOf i.supplyGood 1 ||| bitOf i.phaseRun 0

/-- R150: the five items as they stand for port `p`. -/
def State.statusItems (s : State) (p : Port) : StatusItems :=
  { count := (s.port p).queue.length
    dropped := (s.port p).dropped
    missed := (s.port p).missed
    supplyGood := decide (s.supply.state = .good)
    phaseRun := decide (s.setup.phase = .run) }

/-- R150: the fall of chip select. The status byte is captured, the state becomes FIRST_BYTE and
both shown marks become no. A fall also ends the wait that follows a reset (R148). -/
def PortRec.fall (r : PortRec) (i : StatusItems) : PortRec :=
  { r with
    txn := .firstByte, captured := i, droppedShown := false, missedShown := false
    missedAnew := false, awaitRise := false, buffer := [], byteCount := 0, bitCount := 0
    chosen := .none }

/-- R150: the status byte has been clocked out whole; the flags it showed set get their marks. A
flag set anew since the fall keeps its mark at no (R158, log 12). -/
def PortRec.markShown (r : PortRec) : PortRec :=
  { r with
    droppedShown := r.captured.dropped
    missedShown := r.captured.missed && !r.missedAnew }

/-- R158 step 2: a flag whose shown mark is yes is cleared, and both marks become no. -/
def PortRec.clearShown (r : PortRec) : PortRec :=
  { r with
    dropped := r.dropped && !r.droppedShown
    missed := r.missed && !r.missedShown
    droppedShown := false, missedShown := false }

/-- R153, R155: a frame is dropped; DROPPED is set and its shown mark becomes no. -/
def PortRec.drop (r : PortRec) : PortRec := { r with dropped := true, droppedShown := false }

/-- R159: ATTN_k is asserted while the port's reply queue holds at least one entry. -/
def State.attn (s : State) (p : Port) : Bool := !(s.port p).queue.isEmpty

/-- R7: one quarter of the lease period, rounded up. -/
def leaseLowThreshold (period : Nat) : Nat := (period + 3) / 4

/-- R56: drive is permitted on a leg while its unit is HELD or RELEASING and NORMAL, the supply
state is GOOD and the phase is RUN. -/
def State.drivePermitted (s : State) (l : Leg) : Bool :=
  decide ((s.unit (s.unitOf l)).lease = .held ∨ (s.unit (s.unitOf l)).lease = .releasing) &&
    !s.tripped (s.unitOf l) && decide (s.supply.state = .good) && decide (s.setup.phase = .run)

/-- The leg's unit is HELD, so that a RESTING leg shows its idle level (R65). -/
def State.unitHeld (s : State) (l : Leg) : Bool := decide ((s.unit (s.unitOf l)).lease = .held)

end Sys2Proof.Machine
end

