-- ==== Sys2Proof/Machine/Operands.lean ====
section
/-! DEFINITION. How fields are coded in bodies, replies and notices (R167, R169, R170), which values
a field admits (R42, R138 to R143), and how a pin's voltage is read (R76, R112). -/

namespace Sys2Proof.Machine

/-! ### Numbers and choices (R167) -/

/-- A number in one byte. -/
def num1 (n : Nat) : Byte := BitVec.ofNat 8 n
/-- A number in two bytes. -/
def num2 (n : Nat) : List Byte := halfBytes (BitVec.ofNat 16 n)
/-- Yes 0x01, no 0x00. -/
def yesNo (b : Bool) : Byte := if b then 0x01 else 0x00
/-- High 0x01, low 0x00. -/
def levelByte : Level → Byte
  | .high => 0x01
  | .low => 0x00
/-- A port, leg or unit number. -/
def numByte (i : Fin 4) : Byte := BitVec.ofNat 8 i.val
/-- A port, leg or unit number, none being 0xFF. -/
def numOrNone : Option (Fin 4) → Byte
  | some i => numByte i
  | none => 0xFF
/-- An index byte within 0 to 3. -/
def index4 (b : Byte) : Option (Fin 4) :=
  if h : b.toNat < 4 then some ⟨b.toNat, h⟩ else none
/-- An index byte within 0 to 7. -/
def index8 (b : Byte) : Option (Fin 8) :=
  if h : b.toNat < 8 then some ⟨b.toNat, h⟩ else none
/-- An optional tag: a presence byte, then the tag, 0x00 when absent. -/
def optTag : Option Byte → List Byte
  | some t => [0x01, t]
  | none => [0x00, 0x00]
/-- A set of ports: bit k stands for port k. -/
def portSetByte (a : Four Bool) : Byte :=
  (if a.e0 then 1 else 0) ||| (if a.e1 then 2 else 0) ||| (if a.e2 then 4 else 0) |||
    (if a.e3 then 8 else 0)
/-- A byte read as a set of ports; a reserved bit set to 1 is out of range. -/
def portSetOf (b : Byte) : Option (Four Bool) :=
  if b.toNat < 16 then
    some ⟨b.getLsbD 0, b.getLsbD 1, b.getLsbD 2, b.getLsbD 3⟩
  else none
/-- The trip cause byte, 0x00 for NORMAL. -/
def causeByte : Option Cause → Byte
  | none => 0x00
  | some (.sense n) => 0x10 + BitVec.ofNat 8 n.val
  | some (.escalated n) => 0x20 + BitVec.ofNat 8 n.val
  | some .external => 0x30
/-- Eight flags as one byte, bit n for Sn. -/
def flagsByte (f : Eight Bool) : Byte :=
  (if f.e0 then 0x01 else 0) ||| (if f.e1 then 0x02 else 0) ||| (if f.e2 then 0x04 else 0) |||
    (if f.e3 then 0x08 else 0) ||| (if f.e4 then 0x10 else 0) ||| (if f.e5 then 0x20 else 0) |||
    (if f.e6 then 0x40 else 0) ||| (if f.e7 then 0x80 else 0)

def leaseByte : LeaseState → Byte
  | .free => 0x00
  | .held => 0x01
  | .releasing => 0x02
  | .quiet => 0x03
def kindByte : LegKind → Byte
  | .halfBridge => 0x00
  | .highSide => 0x01
  | .lowSide => 0x02
def kindOf (b : Byte) : Option LegKind :=
  if b = 0x00 then some .halfBridge else if b = 0x01 then some .highSide
  else if b = 0x02 then some .lowSide else none
def idleByte : IdleLevel → Byte
  | .off => 0x00
  | .low => 0x01
def idleOf (b : Byte) : Option IdleLevel :=
  if b = 0x00 then some .off else if b = 0x01 then some .low else none
def actionByte : Action → Byte
  | .none => 0x00
  | .note => 0x01
  | .cycle => 0x02
  | .latch => 0x03
def actionOf (b : Byte) : Option Action :=
  if b = 0x00 then some .none else if b = 0x01 then some .note
  else if b = 0x02 then some .cycle else if b = 0x03 then some .latch else none
def polarityByte : Polarity → Byte
  | .above => 0x00
  | .below => 0x01
def polarityOf (b : Byte) : Option Polarity :=
  if b = 0x00 then some .above else if b = 0x01 then some .below else none
def windowByte : Window → Byte
  | .highOn => 0x00
  | .lowOn => 0x01
  | .any => 0x02
def windowOf (b : Byte) : Option Window :=
  if b = 0x00 then some .highOn else if b = 0x01 then some .lowOn
  else if b = 0x02 then some .any else none
def modeOf (b : Byte) : Option Mode :=
  if b = 0x00 then some .complementary else if b = 0x01 then some .highOnly
  else if b = 0x02 then some .lowOnly else if b = 0x03 then some .holdLow
  else if b = 0x04 then some .off else none
def lossByte : LossReason → Byte
  | .expired => 0x00
  | .revoked => 0x01
def supplyByte : SupplyState → Byte
  | .down => 0x00
  | .settling => 0x01
  | .good => 0x02
def phaseByte : Phase → Byte
  | .setup => 0x00
  | .run => 0x01
def resetCauseByte : ResetCause → Byte
  | .powerOn => 0x00
  | .pin => 0x01
def seqStateNum : SeqState → Nat
  | .idle => 0
  | .gated => 1
  | .running => 2

/-- The result codes (R170). -/
def resultByte : Result → Byte
  | .ok => 0x00
  | .granted => 0x01
  | .queued => 0x02
  | .inProgress => 0x03
  | .notRunning => 0x20
  | .notSetup => 0x21
  | .setupBusy => 0x22
  | .notHolder => 0x23
  | .invalidTable => 0x24
  | .noSuch => 0x30
  | .range => 0x31
  | .denied => 0x32
  | .busy => 0x33
  | .duplicate => 0x34
  | .alreadyOwner => 0x35
  | .notWaiting => 0x36
  | .notOwner => 0x37
  | .notSupervisor => 0x38
  | .nothingToRevoke => 0x39
  | .tripped => 0x40
  | .full => 0x41
  | .supplyLow => 0x42
  | .notTripped => 0x43
  | .stillActive => 0x44
/-- The result codes of ERROR entries (R170). -/
def errorByte : FrameError → Byte
  | .frame => 0x10
  | .check => 0x11
  | .unknown => 0x12
  | .length => 0x13

/-! ### Entries as bytes (R165, R170) -/

/-- The notice codes. -/
def noticeCode : Notice → Byte
  | .granted _ _ _ _ => 0x81
  | .claimTimeout _ => 0x82
  | .leaseLow _ _ => 0x83
  | .leaseLost _ _ => 0x84
  | .releaseDone _ => 0x85
  | .segmentDone _ _ _ _ => 0x90
  | .queueLow _ _ => 0x91
  | .legIdle _ _ => 0x92
  | .tripped _ _ _ _ _ => 0xA0
  | .senseEvent _ _ => 0xA1
  | .supplyLow _ => 0xB0
  | .supplyGood => 0xB1

/-- The data of each notice. -/
def noticeData : Notice → List Byte
  | .granted u period tripped claimedAt =>
    [numByte u] ++ num2 period ++ [yesNo tripped] ++ stampBytes claimedAt
  | .claimTimeout u => [numByte u]
  | .leaseLow u remaining => [numByte u] ++ num2 remaining
  | .leaseLost u reason => [numByte u, lossByte reason]
  | .releaseDone u => [numByte u]
  | .segmentDone l tag late completed => [numByte l, tag, yesNo late] ++ num2 completed
  | .queueLow l count => [numByte l, num1 count]
  | .legIdle l tag => [numByte l, tag]
  | .tripped u cause leg tag discarded =>
    [numByte u, causeByte (some cause), numOrNone leg] ++ optTag tag ++ [num1 discarded]
  | .senseEvent n l => [BitVec.ofNat 8 n.val, numByte l]
  | .supplyLow d => [num1 d.e0, num1 d.e1, num1 d.e2, num1 d.e3]
  | .supplyGood => []

/-- A queue entry as it is shifted out: kind code, entry length, header and data. -/
def entryBytes : Entry → List Byte
  | .reply c seq result data =>
    [0x01, num1 (5 + data.length), commandCode c, seq, resultByte result] ++ data
  | .notice n t =>
    [0x02, num1 (7 + (noticeData n).length), noticeCode n] ++ stampBytes t ++ noticeData n
  | .error result received first second =>
    [0x03, 0x06, errorByte result, num1 received, first, second]

/-- What a READ frame shifts out after the status byte (R156). -/
def chosenBytes : Chosen → List Byte
  | .none => []
  | .empty => [0x00]
  | .entry e => entryBytes e

/-! ### The segment record of ENQUEUE (R42, R169) -/

/-- The on-time step of a record: absent, or a signed magnitude; none of these when the sign byte
of a present step cannot be read. -/
def stepOf (r : RawSegment) : Option (Option Int) :=
  if r.flags.getLsbD 1 then
    if r.stepSign = 0x00 then some (some (r.stepMagnitude.toNat : Int))
    else if r.stepSign = 0x01 then some (some (-(r.stepMagnitude.toNat : Int)))
    else none
  else some none

/-- The start gate of a record; gate code 11 is undefined. -/
def gateOf (r : RawSegment) : Option (Option StartGate) :=
  match r.flags.getLsbD 3, r.flags.getLsbD 2 with
  | false, false => some none
  | false, true => some (some (.atTime r.gateValue))
  | true, false => some (some (.onSync r.gateValue.toNat))
  | true, true => none

/-- R169: the segment record of a body, none when a field's coding is out of range. -/
def readSegment (r : RawSegment) : Option Segment :=
  if r.flags.toNat < 16 then
    match modeOf r.mode, stepOf r, gateOf r with
    | some mode, some step, some gate =>
      some
        { mode := mode, period := r.period.toNat, onTime := r.onTime.toNat
          count := r.count.toNat, tag := r.tag, notify := r.flags.getLsbD 0
          step := step, gate := gate }
    | _, _, _ => none
  else none

/-- R42: the modes each leg kind allows. -/
def modeAllowed : LegKind → Mode → Bool
  | .halfBridge, _ => true
  | .highSide, .highOnly => true
  | .highSide, .off => true
  | .highSide, _ => false
  | .lowSide, .lowOnly => true
  | .lowSide, .holdLow => true
  | .lowSide, .off => true
  | .lowSide, _ => false

/-- The modes whose on-time is applied to the waveform (R29, R64). -/
def Mode.usesOnTime : Mode → Bool
  | .complementary => true
  | .highOnly => true
  | .lowOnly => true
  | .holdLow => false
  | .off => false

/-- R42: the on-time a mode allows in a period, and DT below the period for HOLD_LOW. -/
def onTimeFits (e : LegEntry) (g : Segment) : Bool :=
  match g.mode with
  | .complementary => decide (g.onTime + 2 * e.dt ≤ g.period)
  | .highOnly => decide (g.onTime ≤ g.period)
  | .lowOnly => decide (g.onTime ≤ g.period)
  | .holdLow => decide (e.dt < g.period)
  | .off => true

/-- R42: the on-time against MIN_ON and MAX_ON, 0 being allowed without a step. -/
def onTimeBounded (e : LegEntry) (g : Segment) : Bool :=
  if g.mode.usesOnTime then
    (decide (g.onTime = 0) || decide (e.minOn ≤ g.onTime ∧ g.onTime ≤ e.maxOn)) &&
      (g.step.isNone || decide (e.minOn ≤ g.onTime))
  else true

/-- R42: an ON_SYNC gate's k lies within 1 to 15. -/
def gateInRange (g : Segment) : Bool :=
  match g.gate with
  | some (.onSync k) => decide (1 ≤ k ∧ k ≤ 15)
  | some (.atTime _) => true
  | none => true

/-- R42: the range checks of ENQUEUE check 7. -/
def segmentInRange (e : LegEntry) (g : Segment) : Bool :=
  modeAllowed e.kind g.mode && decide (40 ≤ g.period ∧ g.period ≤ 65535) && onTimeFits e g &&
    onTimeBounded e g && gateInRange g

/-- R64: the ceiling of a stepped on-time. -/
def onCeiling (e : LegEntry) (g : Segment) : Nat :=
  min e.maxOn (if g.mode = .complementary then g.period - 2 * e.dt else g.period)

/-- R36, R64: the on-time of period `k` of a segment. -/
def onTimeAt (e : LegEntry) (g : Segment) (k : Nat) : Nat :=
  match g.step with
  | none => g.onTime
  | some d =>
    if g.mode.usesOnTime then
      let v : Int := g.onTime + k * d
      if v < e.minOn then e.minOn
      else if (onCeiling e g : Int) < v then onCeiling e g
      else v.toNat
    else g.onTime

/-! ### Pins -/

/-- How a VG sample reads (R112). -/
inductive VgSample where
  | low | between | high
deriving DecidableEq, Repr

/-- R112, section 1.5: a VG sample in µV against the part's two thresholds, each of which lies
within the bounds of section 1.5 (log 9). -/
def vgSample (v : Nat) : VgSample :=
  if v < Config.vgLowMin then .low
  else if v < Config.vgLowMax then (if v < Config.vgLow then .low else .between)
  else if v ≤ Config.vgOkMin then .between
  else if v ≤ Config.vgOkMax then (if Config.vgOk < v then .high else .between)
  else .high

/-- R76: the comparator output: HIGH while the SNSn voltage exceeds (code + 1)/64 of VREF. Both
voltages are in one unit. -/
def comparator (code sns vref : Nat) : Level :=
  if (code + 1) * vref < 64 * sns then .high else .low

/-- R77: whether a level reads active. -/
def readsActive : Polarity → Level → Bool
  | .above, .high => true
  | .above, .low => false
  | .below, .high => false
  | .below, .low => true

/-- R126: an AT_TIME(t) gate is open while (now − t) mod 2³² is less than 2³¹. -/
def gateOpen (now t : Stamp) : Bool := decide ((now - t).toNat < 2 ^ 31)

end Sys2Proof.Machine
end

