-- ==== Sys2Proof/Machine/Gates.lean ====
section
/-! DEFINITION. The Gate Output Stage: turning gates on and off under the dead-time guard (R57,
R58), what a period layout asks of the gates at a position (R60 to R63), the idle level (R65), the
start of periods and the leading dead time (R59, R66), and one wu of its counters.

The gates are asked for by level: at each event the stage compares the gates with what the layout or
the idle level asks at that position, turns off what is not asked, and turns on what is asked and
not guarded. A deferred turn-on is one still asked when the guard runs out (log 16). -/

namespace Sys2Proof.Machine

/-! ### One gate (R57, R68) -/

/-- R57: the guard a turn-off leaves; with a DT of 0 no gate is ever guarded. -/
def guardAfter (dt : Nat) (g : Guarded) : Guarded := if dt = 0 then .none else g

/-- Whether gate `g` is among the guarded gates. -/
def guards : Guarded → Gate → Bool
  | .none, _ => false
  | .both, _ => true
  | .gh, .gh => true
  | .gh, .gl => false
  | .gl, .gh => false
  | .gl, .gl => true

/-- An ordinary turn-off of GH: the dead-time timer restarts, GL is guarded and GH's blanking count
becomes expired (R57, R68). Nothing happens to a gate that is off. -/
def turnOffGH (dt : Nat) (st : Stage) : Stage :=
  if st.gh then
    { st with gh := false, ghBlank := none, deadTimer := 0, guarded := guardAfter dt .gl }
  else st

/-- An ordinary turn-off of GL, which guards GH. -/
def turnOffGL (dt : Nat) (st : Stage) : Stage :=
  if st.gl then
    { st with gl := false, glBlank := none, deadTimer := 0, guarded := guardAfter dt .gh }
  else st

/-- A turn-on of GH asked for now: it happens unless GH is on or guarded, or GL is on (R57); the
blanking count starts at 0 (R68). -/
def turnOnGH (st : Stage) : Stage :=
  if st.gh || st.gl || guards st.guarded .gh then st
  else { st with gh := true, ghBlank := some 0 }

/-- A turn-on of GL asked for now. -/
def turnOnGL (st : Stage) : Stage :=
  if st.gh || st.gl || guards st.guarded .gl then st
  else { st with gl := true, glBlank := some 0 }

/-! ### What is asked of the gates -/

/-- R60 to R63, R69: GH and GL asked for at a position of a period. After a cut at c the period
goes on as if its on-time had ended at c. -/
def layoutGates (dt : Nat) (l : Layout) (pos : Nat) : Bool × Bool :=
  let on := l.cut.getD l.onTime
  match l.mode with
  | .complementary => (decide (pos < on), decide (on + dt ≤ pos ∧ pos + dt < l.period))
  | .highOnly => (decide (pos < on), false)
  | .lowOnly => (false, decide (pos < l.onTime))
  | .holdLow => (false, !l.final || decide (pos + dt < l.period))
  | .off => (false, false)

/-- R54: the gates the leg's kind uses, of those asked for. -/
def kindGates : LegKind → Bool × Bool → Bool × Bool
  | .halfBridge, w => w
  | .highSide, w => (w.1, false)
  | .lowSide, w => (false, w.2)

/-- The gates asked for in a stage state: a period's within the period; at its end the present ones,
until the period end is taken (R59); GL in RESTING at idle level LOW while the unit is HELD (R65);
none in FORCED, LEADING and WAITING. -/
def wantedGates (e : LegEntry) (held : Bool) (st : Stage) : Bool × Bool :=
  match st.state with
  | .playing l pos =>
    kindGates e.kind (if pos < l.period then layoutGates e.dt l pos else (st.gh, st.gl))
  | .resting => kindGates e.kind (false, held && decide (e.idle = .low))
  | .forced => (false, false)
  | .leading _ => (false, false)
  | .waiting => (false, false)

/-- The gates not asked for turn off. -/
def turnOffs (dt : Nat) (w : Bool × Bool) (st : Stage) : Stage :=
  let st := if w.1 then st else turnOffGH dt st
  if w.2 then st else turnOffGL dt st

/-- The gates asked for turn on, where nothing guards them (R57). -/
def turnOns (w : Bool × Bool) (st : Stage) : Stage :=
  let st := if w.1 then turnOnGH st else st
  if w.2 then turnOnGL st else st

/-- The gates brought to what is asked: turn-offs first, then turn-ons. -/
def settleStage (e : LegEntry) (held : Bool) (st : Stage) : Stage :=
  let w := wantedGates e held st
  turnOns w (turnOffs e.dt w st)

/-- R57: the guarded gates become none and the turn-ons still asked for take place. -/
def releaseStage (e : LegEntry) (held : Bool) (st : Stage) : Stage :=
  turnOns (wantedGates e held st) { st with guarded := .none }

/-- R65: a RESTING leg shows the idle level its unit's lease state gives; other legs play on. -/
def idleStage (e : LegEntry) (held : Bool) (st : Stage) : Stage :=
  if st.state = .resting then settleStage e held st else st

/-! ### Forcing and stopping (R58) -/

/-- R58: both gates off at once; when at least one was on, the timer restarts and both gates are
guarded. The stage state becomes `next`, which keeps no layout or position. -/
def bothOff (dt : Nat) (next : StageState) (st : Stage) : Stage :=
  if st.gh || st.gl then
    { st with
      state := next, gh := false, gl := false, ghBlank := none, glBlank := none, deadTimer := 0
      guarded := guardAfter dt .both, fromIdleLow := false }
  else { st with state := next, fromIdleLow := false }

/-- R58: a leg forced off. -/
def forceStage (e : LegEntry) (st : Stage) : Stage := bothOff e.dt .forced st

/-- R58, R65: the cut of FLUSH ALL: both gates off, then the idle level asked for. -/
def stopStage (e : LegEntry) (held : Bool) (st : Stage) : Stage :=
  settleStage e held (bothOff e.dt .resting st)

/-- R56, R65: drive is permitted again; a FORCED leg enters RESTING and shows its idle level. -/
def restStage (e : LegEntry) (held : Bool) (st : Stage) : Stage :=
  if st.state = .forced then settleStage e held { st with state := .resting } else st

/-! ### Periods (R59, R66) -/

/-- The layout of the period an active segment is about to play. A finite segment's final period is
the one numbered count − 1 (R37, R59). -/
def layoutOf (a : Active) : Layout :=
  { mode := a.seg.mode, period := a.seg.period, onTime := a.onTime
    final := decide (a.seg.count ≠ 0 ∧ a.completed + 1 = a.seg.count)
    cut := none, judged := false }

/-- R59: a period begins at position 0. -/
def beginPeriod (e : LegEntry) (held : Bool) (l : Layout) (st : Stage) : Stage :=
  settleStage e held { st with state := .playing l 0, fromIdleLow := false }

/-- R34, R66, R67: the stage's part of a take. From the idle level LOW, GL turns off and the leading
dead time counts from that turn-off; with a DT of 0 it has no length (log 17). -/
def takeStage (e : LegEntry) (held : Bool) (a : Active) (st : Stage) : Stage :=
  let idleLow := decide (st.state = .resting) && st.gl
  match a.gate with
  | some _ => settleStage e held { st with state := .waiting, fromIdleLow := idleLow }
  | none =>
    if idleLow then
      if e.dt = 0 then beginPeriod e held (layoutOf a) (turnOffGL e.dt st)
      else settleStage e held { st with state := .leading (layoutOf a), fromIdleLow := true }
    else beginPeriod e held (layoutOf a) st

/-- R66: a start gate opens; what remains of the leading dead time is held first. -/
def openStage (e : LegEntry) (held : Bool) (a : Active) (st : Stage) : Stage :=
  if st.fromIdleLow && decide (st.deadTimer < e.dt) then
    { st with state := .leading (layoutOf a) }
  else beginPeriod e held (layoutOf a) st

/-- R62, R65, R67: the stage's part of a segment end with nothing to take. A gate still on at the end
of the last period turns off there, as an ordinary turn-off; then the idle level asks for GL, which
turns on at once or when the guard releases it. -/
def endStage (e : LegEntry) (held : Bool) (st : Stage) : Stage :=
  settleStage e held
    { turnOffGL e.dt (turnOffGH e.dt st) with state := .resting, fromIdleLow := false }

/-! ### Stage events on a leg of the part -/

/-- The stage of leg `l` changed by `f`, which is told the leg's entry and whether its unit is
HELD. -/
def State.onStage (s : State) (l : Leg) (f : LegEntry → Bool → Stage → Stage) : State :=
  s.setStage l (f (s.legEntry l) (s.unitHeld l) (s.stage l))

/-- The stages of the legs of unit `u` changed by `f`. -/
def State.onUnitStages (s : State) (u : UnitNo) (f : LegEntry → Bool → Stage → Stage) : State :=
  s.setStages (s.stages.mapIdx fun l st =>
    if s.unitOf l = u then f (s.legEntry l) (s.unitHeld l) st else st)

/-- R56: the legs of unit `u` on which drive is permitted leave FORCED. -/
def State.restoreUnit (s : State) (u : UnitNo) : State :=
  s.setStages (s.stages.mapIdx fun l st =>
    if s.unitOf l = u ∧ s.drivePermitted l = true then
      restStage (s.legEntry l) (s.unitHeld l) st
    else st)

/-- R119: every leg on which drive is permitted leaves FORCED. -/
def State.restoreAll (s : State) : State :=
  s.setStages (s.stages.mapIdx fun l st =>
    if s.drivePermitted l then restStage (s.legEntry l) (s.unitHeld l) st else st)

/-! ### One wu (R57, R59, R68, R79) -/

/-- A blanking count one wu later, of a gate that stays on (R68). -/
def blankNext (c : Option Nat) : Option Nat := c.map fun n => min 255 (n + 1)

/-- One wu at the stage: the view of the wu is kept for its samples (R79), the position and the
blanking counts advance, and the dead-time timer counts while a gate is guarded. -/
def wuStage (st : Stage) : Stage :=
  { st with
    seen := { gh := st.gh, gl := st.gl, ghBlank := st.ghBlank, glBlank := st.glBlank }
    state :=
      match st.state with
      | .playing l pos => .playing l (pos + 1)
      | other => other
    ghBlank := blankNext st.ghBlank
    glBlank := blankNext st.glBlank
    deadTimer := if st.guarded = .none then st.deadTimer else st.deadTimer + 1 }

end Sys2Proof.Machine
end

