-- ==== Sys2Proof/Machine/Leases.lean ====
section
/-! DEFINITION. The Lease Manager's shared operations: flush orders (R48), grants (R6, R13), the
quiet timer and quiet end (R4, R6), abort (R5) and drain (R20). -/

namespace Sys2Proof.Machine

/-! ### Flushes (R47, R48) -/

/-- R47, R48: the number a flush discards: the pending segments, and the active one when it is
cut. -/
def LegSeq.discards (q : LegSeq) : Nat := q.queue.length + (if q.active.isSome then 1 else 0)

/-- The tag of the active segment, or none. -/
def LegSeq.activeTag (q : LegSeq) : Option Byte := q.active.map fun a => a.seg.tag

/-- R48, R72: a flush order: IDLE, empty, low-water armed no, escalation counter 0, cut-seen no. -/
def LegSeq.flushed (q : LegSeq) : LegSeq :=
  { q with queue := [], active := none, lowArmed := false, escalation := 0, cutSeen := false }

/-- R5 step 2, R98 step 2: every leg of unit `u` forced off and flushed. -/
def State.stopUnit (s : State) (u : UnitNo) : State :=
  let s := s.onUnitStages u fun e _ st => forceStage e st
  s.setSeqs (s.seqs.mapIdx fun l q => if s.unitOf l = u then q.flushed else q)

/-- R45: every leg of unit `u` is IDLE with an empty pending queue. -/
def State.unitDrained (s : State) (u : UnitNo) : Bool :=
  four.all fun l => decide (s.unitOf l ≠ u) || (s.seq l).idleEmpty

/-- The segments a flush of every leg of unit `u` discards (R98 step 3). -/
def State.unitDiscards (s : State) (u : UnitNo) : Nat :=
  four.foldl (fun n l => if s.unitOf l = u then n + (s.seq l).discards else n) 0

/-! ### Grants and the quiet interval -/

/-- R6, R13: the unit record of a unit granted to port `p` with a period in ms. -/
def UnitRec.grantTo (r : UnitRec) (p : Port) (period : Nat) : UnitRec :=
  { r with
    lease := .held, owner := some p, releasing := none, period := some period
    remaining := period, leaseLowArmed := true, quiet := 0 }

/-- R6, R13, R56: unit `u` is granted to port `p`; its legs leave FORCED if drive is permitted. -/
def State.grant (s : State) (u : UnitNo) (p : Port) (period : Nat) : State :=
  (s.setUnit u ((s.unit u).grantTo p period)).restoreUnit u

/-- R6: the quiet interval of unit `u` ends: the oldest waiter is granted and told, or the unit
becomes FREE. -/
def State.endQuiet (s : State) (u : UnitNo) : State :=
  match (s.unit u).wait with
  | [] => s.setUnit u { s.unit u with lease := .free, quiet := 0 }
  | w :: rest =>
    ((s.setUnit u { s.unit u with wait := rest }).grant u w.port w.period).notify w.port
      (.granted u w.period (s.tripped u) w.claimedAt)

/-- R5 step 1, R20: the record of a unit that leaves HELD or RELEASING for QUIET. -/
def UnitRec.toQuiet (r : UnitRec) : UnitRec :=
  { r with
    lease := .quiet, owner := none, releasing := none, period := none, remaining := 0
    leaseLowArmed := false, quiet := 0 }

/-- R4: the quiet timer of unit `u` is set to its quiet time from the board table. -/
def State.loadQuiet (s : State) (u : UnitNo) : State :=
  s.setUnit u { s.unit u with quiet := (s.unitEntry u).quiet }

/-- R4: a quiet time of 0 ends the quiet interval of unit `u` in the event that began it. -/
def State.endZeroQuiet (s : State) (u : UnitNo) : State :=
  if (s.unitEntry u).quiet = 0 then s.endQuiet u else s

/-- R4: the quiet timer is started; a quiet time of 0 ends the quiet interval in the same event. -/
def State.startQuiet (s : State) (u : UnitNo) : State := (s.loadQuiet u).endZeroQuiet u

/-- R5: an abort of unit `u`, with the notice of its cause for the former holder, if it sends
one. -/
def State.abort (s : State) (u : UnitNo) (n : Option Notice) : State :=
  let former := (s.unit u).holder
  let s := (s.setUnit u (s.unit u).toQuiet).stopUnit u
  let s :=
    match n with
    | some n => s.notifyOpt former n
    | none => s
  s.startQuiet u

/-- R20: the drain of a RELEASING unit, up to the start of its quiet timer. Drive is withdrawn from
its legs (R56). -/
def State.beginDrain (s : State) (u : UnitNo) : State :=
  let former := (s.unit u).holder
  let s := (s.setUnit u (s.unit u).toQuiet).onUnitStages u fun e _ st => forceStage e st
  (s.notifyOpt former (.releaseDone u)).loadQuiet u

/-- R4, R20: the drain of a RELEASING unit, with the end of a quiet time of 0. -/
def State.drain (s : State) (u : UnitNo) : State := (s.beginDrain u).endZeroQuiet u

/-- R20, R45: unit `u` is RELEASING and every leg of it is IDLE with an empty pending queue. -/
def State.drainDue (s : State) (u : UnitNo) : Bool :=
  decide ((s.unit u).lease = .releasing ∧ s.unitDrained u = true)

/-- R20, R45: the drain check of unit `u`, which has no effect unless the unit is RELEASING. -/
def State.drainCheck (s : State) (u : UnitNo) : State := if s.drainDue u then s.drain u else s

/-- The drain check of unit `u`, up to the start of its quiet timer. -/
def State.beginDrainCheck (s : State) (u : UnitNo) : State :=
  if s.drainDue u then s.beginDrain u else s

/-- R4, R27: the quiet times of 0 of the units `us`, which one event has put in QUIET, end once the
event has placed its other notices, so that each GRANTED comes last. -/
def State.endZeroQuiets (s : State) (us : List UnitNo) : State :=
  us.foldl (fun s u => s.endZeroQuiet u) s

/-- R27, R115 step 4: the drain checks of the four units, in unit order, then the ends of their quiet
times of 0. -/
def State.drainChecks (s : State) : State :=
  (four.foldl (fun s u => s.beginDrainCheck u) s).endZeroQuiets (four.filter s.drainDue)

end Sys2Proof.Machine
end

