-- ==== Sys2Proof/Machine/Segments.lean ====
section
/-! DEFINITION. The Segment Sequencer's shared operations: taking a segment (R34), the opening of a
start gate (R35), the judgement of a continuous segment (R38), the end of a segment (R39, R40) and
of a period (R36, R71). -/

namespace Sys2Proof.Machine

/-- R34, R126, R128: the start-gate state and the late flag of a segment taken at `now`. -/
def gateAtTake (now : Stamp) : Option StartGate → Option GateState × Bool
  | none => (none, false)
  | some (.atTime t) => if gateOpen now t then (none, true) else (some .waiting, false)
  | some (.onSync k) => (some (.edges k), false)

/-- R34: the active segment a pending segment becomes. -/
def activeOf (e : LegEntry) (now : Stamp) (g : Segment) : Active :=
  { seg := g, completed := 0, onTime := onTimeAt e g 0, late := (gateAtTake now g.gate).2
    gate := (gateAtTake now g.gate).1 }

/-- R34: the head of the pending queue of leg `l` is taken. -/
def State.take (s : State) (l : Leg) : State :=
  match (s.seq l).queue with
  | [] => s
  | g :: rest =>
    let a := activeOf (s.legEntry l) s.time.stamp g
    (s.setSeq l { s.seq l with queue := rest, active := some a }).onStage l fun e held st =>
      takeStage e held a st

/-- R35: the start gate of the active segment of leg `l` opens, with the late flag as it stands. -/
def State.openGate (s : State) (l : Leg) : State :=
  match (s.seq l).active with
  | none => s
  | some a =>
    let a := { a with gate := none }
    (s.setSeq l { s.seq l with active := some a }).onStage l fun e held st => openStage e held a st

/-- R38: a continuous segment's period is judged final when the pending queue holds a segment or
the unit is RELEASING. -/
def State.judgedFinal (s : State) (l : Leg) : Bool :=
  !(s.seq l).queue.isEmpty || decide ((s.unit (s.unitOf l)).lease = .releasing)

/-- The port holding the unit of leg `l` (R39, R52). -/
def State.legHolder (s : State) (l : Leg) : Option Port := (s.unit (s.unitOf l)).holder

/-- R40: a take at a segment end that lowers the pending count from mark + 1 to the mark while the
flag is armed disarms it and sends QUEUE_LOW. -/
def State.queueLowCheck (s : State) (l : Leg) (before : Nat) : State :=
  let mark := (s.legEntry l).lowWater
  if before = mark + 1 ∧ (s.seq l).lowArmed = true then
    (s.setSeq l { s.seq l with lowArmed := false }).notifyOpt (s.legHolder l) (.queueLow l mark)
  else s

/-- R39: the active segment `a` of leg `l` ends. -/
def State.endSegment (s : State) (l : Leg) (a : Active) : State :=
  let s :=
    if a.seg.notify then
      s.notifyOpt (s.legHolder l) (.segmentDone l a.seg.tag a.late a.completed)
    else s
  match (s.seq l).queue with
  | [] =>
    let q := { s.seq l with active := none, escalation := 0, cutSeen := false }
    let s := (s.setSeq l q).onStage l fun e held st => endStage e held st
    (s.notifyOpt (s.legHolder l) (.legIdle l a.seg.tag)).drainCheck (s.unitOf l)
  | g :: rest =>
    ((s.setSeq l { s.seq l with active := none }).take l).queueLowCheck l (g :: rest).length

/-- R37, R38: whether the period that ends is the segment's last. `lay` is the layout played. -/
def State.segmentEnds (s : State) (l : Leg) (a : Active) (lay : Layout) : Bool :=
  if a.seg.count ≠ 0 then decide (a.completed = a.seg.count)
  else if a.seg.mode = .holdLow ∧ (s.legEntry l).dt ≠ 0 then lay.final
  else s.judgedFinal l

/-- R36, R71: the period of active segment `a` of leg `l` ends. -/
def State.endPeriod (s : State) (l : Leg) (a : Active) (lay : Layout) : State :=
  let a := { a with completed := min 65535 (a.completed + 1) }
  let q := s.seq l
  let s := s.setSeq l
    { q with
      active := some a, cutSeen := false
      escalation := if q.cutSeen then q.escalation else 0 }
  if s.segmentEnds l a lay then s.endSegment l a
  else
    let a := { a with onTime := onTimeAt (s.legEntry l) a.seg a.completed }
    (s.setSeq l { s.seq l with active := some a }).onStage l fun e held st =>
      beginPeriod e held (layoutOf a) st

end Sys2Proof.Machine
end

