-- ==== Sys2Proof/Machine/Trips.lean ====
section
/-! DEFINITION. The Protection Unit, the Sense Comparator Array and the Supply Monitor: trip
requests (R97 to R103), the judging of samples (R79 to R88), cycle cuts and escalation (R69 to R73),
latch-hold (R91), and the departure from and arrival at GOOD (R115, R119). -/

namespace Sys2Proof.Machine

/-! ### Trips -/

/-- R98: unit `u`, which is NORMAL, trips: steps 1 to 4. -/
def State.strike (s : State) (u : UnitNo) (c : Cause) (leg : Option Leg) : State :=
  let owner := (s.unit u).holder
  let discarded := s.unitDiscards u
  let tag := leg.bind fun l => (s.seq l).activeTag
  let info : TripInfo :=
    { cause := c, leg := leg, stamp := s.time.stamp, tag := tag, owner := owner
      discarded := discarded }
  let s := (s.setTrip u { info := some info, laterSenses := 0, laterExternal := false }).stopUnit u
  s.notifyBoth owner s.board.supervisor (.tripped u c leg tag discarded)

/-- R98: unit `u`, which is NORMAL, trips, and drains if it is RELEASING. -/
def State.takeTrip (s : State) (u : UnitNo) (c : Cause) (leg : Option Leg) : State :=
  (s.strike u c leg).drainCheck u

/-- R101: a cause recorded among the later causes; an ESCALATED request does not arise there. -/
def TripRec.addLater (t : TripRec) : Cause → TripRec
  | .sense n => { t with laterSenses := t.laterSenses ||| ((1 : BitVec 8) <<< n.val) }
  | .external => { t with laterExternal := true }
  | .escalated _ => t

/-- R97, R98, R101: a trip request for unit `u`. -/
def State.tripRequest (s : State) (u : UnitNo) (c : Cause) (leg : Option Leg) : State :=
  if s.tripped u then s.setTrip u ((s.trip u).addLater c) else s.takeTrip u c leg

/-- R102: the EXTERNAL request for unit `u`, up to the start of the quiet timer of a unit that it
drains; none for an absent unit. -/
def State.externalRequest (s : State) (u : UnitNo) : State :=
  if s.present u then
    if s.tripped u then s.setTrip u ((s.trip u).addLater .external)
    else (s.strike u .external none).beginDrainCheck u
  else s

/-- The unit is present, NORMAL and RELEASING, so that an EXTERNAL request drains it (R98, R102). -/
def State.externalDrains (s : State) (u : UnitNo) : Bool :=
  s.present u && !s.tripped u && decide ((s.unit u).lease = .releasing)

/-- R27, R102, R103: an EXTERNAL request for every present unit, in unit order, then the ends of the
quiet times of 0 of the units drained. -/
def State.tripAll (s : State) : State :=
  (four.foldl (fun s u => s.externalRequest u) s).endZeroQuiets (four.filter s.externalDrains)

/-! ### Cycle cuts and escalation -/

/-- R71: the sequencer's part of a cut by sense input `n`. -/
def LegSeq.cut (q : LegSeq) (n : SenseNo) : LegSeq :=
  if q.cutSeen then q
  else { q with cutSeen := true, escalation := min 255 (q.escalation + 1), lastCut := some n }

/-- R69 steps 1 and 2: the stage's part of a cut. -/
def cutStage (e : LegEntry) (st : Stage) : Stage :=
  match st.state with
  | .playing l pos => turnOffGH e.dt { st with state := .playing { l with cut := some pos } pos }
  | .forced => st
  | .resting => st
  | .leading _ => st
  | .waiting => st

/-- The stage is PLAYING with GH on, so that a CYCLE activation cuts (R69). -/
def Stage.cuttable (st : Stage) : Bool :=
  match st.state with
  | .playing _ _ => st.gh
  | .forced => false
  | .resting => false
  | .leading _ => false
  | .waiting => false

/-- R69, R71, R73: a CYCLE activation of sense input `n` at leg `l`. -/
def State.cycleCut (s : State) (n : SenseNo) (l : Leg) : State :=
  if (s.stage l).cuttable then
    let fresh := !(s.seq l).cutSeen
    let s := s.onStage l fun e _ st => cutStage e st
    let s := s.setSeq l ((s.seq l).cut n)
    let limit := (s.legEntry l).escalation
    if fresh && decide (limit ≠ 0 ∧ (s.seq l).escalation = limit) then
      s.tripRequest (s.unitOf l) (.escalated n) (some l)
    else s
  else s

/-! ### Sense samples -/

/-- R80: the window of an entry is open for a wu seen as `v`. -/
def windowOpen : Window → GateView → Bool
  | .highOn, v => v.gh
  | .lowOn, v => v.gl
  | .any, _ => true

/-- A blanking count is less than the blank time; an expired one is not (R81). -/
def countBelow (c : Option Nat) (blank : Nat) : Bool :=
  match c with
  | some n => decide (n < blank)
  | none => false

/-- R81: a sample of a wu seen as `v` is blanked. -/
def blanked (w : Window) (blank : Nat) (v : GateView) : Bool :=
  match w with
  | .highOn => countBelow v.ghBlank blank
  | .lowOn => countBelow v.glBlank blank
  | .any => false

/-- R80 to R82: the count and qualified flag after an armed input's sample, with whether an
activation begins (R83). The window is judged by R80's table, by the gate during the wu of the sample
alone. So with a blank time of 0 a window that closes and opens again with no wu between, as by a cut
at a period end with an on-time of the whole period (R70), ends no activation, and R86's next sample
does not find it closed: the model's choice (log 25). -/
def judgeSample (e : SenseEntry) (v : GateView) (active : Bool) (r : SenseRec) :
    SenseRec × Bool :=
  if windowOpen e.window v && !blanked e.window e.blank v && active then
    let n := min e.qualify (r.count + 1)
    let begins := decide (n = e.qualify) && !r.qualified
    ({ r with count := n, qualified := r.qualified || begins }, begins)
  else ({ r with count := 0, qualified := false }, false)

/-- R84: an inactive sample re-arms NOTE. -/
def rearmed (active : Bool) (r : SenseRec) : SenseRec :=
  if active then r else { r with rearm := true }

/-- R84 to R88: the action of an activation of input `n`. -/
def State.activate (s : State) (n : SenseNo) : State :=
  let e := s.senseEntry n
  match e.action with
  | .none => s
  | .note =>
    if (s.sense n).rearm then
      (s.setSenseRec n { s.sense n with rearm := false }).notifyBoth (s.legHolder e.target)
        s.board.supervisor (.senseEvent n e.target)
    else s
  | .cycle => s.cycleCut n e.target
  | .latch => s.tripRequest (s.unitOf e.target) (.sense n) (some e.target)

/-- R77, R79 to R83: a sample of input `n` whose comparator reads `level`. Every sample presented is
judged and counted, a second one within one wu too: the model's choice (log 10). -/
def State.sample (s : State) (n : SenseNo) (level : Level) : State :=
  let e := s.senseEntry n
  let r := { s.sense n with raw := level }
  if r.armed then
    let active := readsActive e.polarity level
    let (r, begins) := judgeSample e (s.stage e.target).seen active (rearmed active r)
    let s := s.setSenseRec n r
    if begins then s.activate n else s
  else s.setSenseRec n r

/-- R91: the latch-hold of unit `u`. -/
def State.latchHold (s : State) (u : UnitNo) : Bool :=
  eight.any fun n =>
    let e := s.senseEntry n
    let r := s.sense n
    r.armed && decide (e.action = .latch) && decide (s.unitOf e.target = u) &&
      (r.qualified || (decide (e.window = .any) && readsActive e.polarity r.raw))

/-! ### The gate supply -/

/-- R115: the departure from GOOD. The counts are those of the flushes of step 2. -/
def State.leaveGood (s : State) : State :=
  let counts : Four Nat := Four.tabulate fun l => (s.seq l).discards
  let s := s.setSupplyRec { state := .down, timer := 0 }
  let s := s.setStages (s.stages.mapIdx fun l st => forceStage (s.legEntry l) st)
  let s := s.setSeqs (s.seqs.mapIdx fun _ q => q.flushed)
  (s.broadcast (.supplyLow counts)).drainChecks

/-- R119: the arrival at GOOD. -/
def State.enterGood (s : State) : State :=
  ((s.setSupplyRec { state := .good, timer := 0 }).restoreAll).broadcast .supplyGood

end Sys2Proof.Machine
end

