-- ==== Sys2Proof/Machine/Clock.lean ====
section
/-! DEFINITION. The part's own clock: one wu of the waveform clock, and the events of the part that
are due in a state (R57, R59, R66, R121, R122 and the timers they step). An event row acts only
while it is due (log 2), and on an empty queue the first due event is taken before the next wu
passes (log 1, log 6). -/

namespace Sys2Proof.Machine

/-- One wu of the waveform clock: every stage's counters and the count towards the next timestamp
step (R59, R68, R121). It samples no pin: the samples of the wu are the rows presented, and a wu
without a row of a pin leaves the pin's latest sample as it was, `syncLast` after a reset at none
(the model's choice, logs 10 and 24). -/
def State.wu (s : State) : State :=
  (s.setStages (s.stages.mapIdx fun _ st => wuStage st)).setTime { s.time with wu := s.time.wu + 1 }

/-! ### What is due -/

/-- R57: the dead-time timer of leg `l` has reached DT with a gate guarded. -/
def State.guardDue (s : State) (l : Leg) : Bool :=
  decide ((s.stage l).guarded ≠ .none ∧ (s.legEntry l).dt ≤ (s.stage l).deadTimer)

/-- R66: DT has passed since GL turned off at the take from idle LOW. -/
def State.leadDue (s : State) (l : Leg) : Bool :=
  match (s.stage l).state with
  | .leading _ => decide ((s.legEntry l).dt ≤ (s.stage l).deadTimer)
  | .forced => false
  | .resting => false
  | .playing _ _ => false
  | .waiting => false

/-- R38: a continuous HOLD_LOW period with a DT other than 0 stands at period − DT and has not been
judged. -/
def State.decisionDue (s : State) (l : Leg) : Bool :=
  match (s.stage l).state, (s.seq l).active with
  | .playing lay pos, some a =>
    decide (a.seg.count = 0 ∧ lay.mode = .holdLow ∧ (s.legEntry l).dt ≠ 0 ∧ lay.judged = false ∧
      pos + (s.legEntry l).dt = lay.period)
  | _, _ => false

/-- R60: the layout of leg `l` asks for a gate level other than the present one, within the
period. -/
def State.changeDue (s : State) (l : Leg) : Bool :=
  match (s.stage l).state with
  | .playing lay pos =>
    let st := settleStage (s.legEntry l) (s.unitHeld l) (s.stage l)
    decide (pos < lay.period ∧ (st.gh ≠ (s.stage l).gh ∨ st.gl ≠ (s.stage l).gl))
  | .forced => false
  | .resting => false
  | .leading _ => false
  | .waiting => false

/-- R59: the position has reached the period. -/
def State.periodDue (s : State) (l : Leg) : Bool :=
  match (s.stage l).state, (s.seq l).active with
  | .playing lay pos, some _ => decide (lay.period ≤ pos)
  | _, _ => false

/-- R127: the active segment is GATED on AT_TIME and its gate is open now. -/
def State.atTimeDue (s : State) (l : Leg) : Bool :=
  match (s.seq l).active with
  | some a =>
    match a.gate, a.seg.gate with
    | some .waiting, some (.atTime t) => gateOpen s.time.stamp t
    | _, _ => false
  | none => false

/-- R3: lease remaining has reached 0 in HELD or RELEASING. -/
def State.leaseDue (s : State) (u : UnitNo) : Bool :=
  decide (((s.unit u).lease = .held ∨ (s.unit u).lease = .releasing) ∧ (s.unit u).remaining = 0)

/-- R4: quiet remaining has reached 0 in QUIET. -/
def State.quietDue (s : State) (u : UnitNo) : Bool :=
  decide ((s.unit u).lease = .quiet ∧ (s.unit u).quiet = 0)

/-- A wait entry of port `p` whose remaining wait has reached 0 (R11). -/
def WaitEntry.expired (w : WaitEntry) (p : Port) : Bool :=
  decide (w.port = p ∧ w.remaining = some 0)

/-- R11: the wait of port `p` for unit `u` has reached 0. -/
def State.timeoutDue (s : State) (u : UnitNo) (p : Port) : Bool :=
  (s.unit u).wait.any fun w => w.expired p

/-- R135: inactivity remaining has reached 0 while a port holds the lock. -/
def State.lockDue (s : State) : Bool :=
  s.setup.holder.isSome && decide (s.setup.inactivity = 0)

/-- R119: the settle timer has reached 0 in SETTLING. -/
def State.settleDue (s : State) : Bool :=
  decide (s.supply.state = .settling ∧ s.supply.timer = 0)

/-- R121: 20 waveform clocks have passed since the latest timestamp step. -/
def State.stepDue (s : State) : Bool := decide (Config.wuPerStep ≤ s.time.wu)

/-- R122: a millisecond tick has been drawn and not yet taken. -/
def State.tickDue (s : State) : Bool := decide (s.time.ticksDue ≠ 0)

/-- A row, if it is due. -/
def dueRow (due : Bool) (i : Instr) : List Instr := if due then [i] else []

/-- The waveform events due on leg `l`. -/
def State.legRows (s : State) (l : Leg) : List Instr :=
  dueRow (s.guardDue l) (.deadTimeGuardExpiry l) ++ dueRow (s.leadDue l) (.leadingDeadTimeEnd l) ++
    dueRow (s.decisionDue l) (.decisionPoint l) ++ dueRow (s.changeDue l) (.layoutGateChange l) ++
    dueRow (s.periodDue l) (.periodEnd l)

/-- The lease events due on unit `u`. -/
def State.unitRows (s : State) (u : UnitNo) : List Instr :=
  dueRow (s.leaseDue u) (.leaseExpiry u) ++
    four.flatMap (fun p => dueRow (s.timeoutDue u p) (.claimTimeout u p)) ++
    dueRow (s.quietDue u) (.quietEnd u)

/-- Every event of the part's own that is due, in the model's order (log 6). -/
def State.dueRows (s : State) : List Instr :=
  four.flatMap s.legRows ++ dueRow s.stepDue .timestampStep ++ dueRow s.tickDue .millisecondTick ++
    dueRow s.settleDue .settleTimerExpiry ++ dueRow s.lockDue .setupLockInactivityExpiry ++
    four.flatMap s.unitRows ++ four.flatMap (fun l => dueRow (s.atTimeDue l) (.atTimeOpening l))

end Sys2Proof.Machine
end

