-- ==== Sys2Proof/Machine/Transactions.lean ====
section
/-! DEFINITION. Transactions on a port: the fall of chip select, the first byte, and the rise that
ends a READ frame, a failed frame or a command (R149 to R158). The rows CHIP_SELECT_FALL,
FIRST_BYTE_WHOLE, READ_FRAME and ERROR_ENTRY, and the taking that every command row shares.

A row that ends a transaction on a port that stands in IDLE is the whole transaction, fall and first
byte included (log 3). -/

namespace Sys2Proof.Machine

/-- R150, R151, R156: the first byte of the transaction is whole. -/
def PortRec.firstByte (r : PortRec) (b : Byte) : PortRec :=
  let r := r.markShown
  if b = readCode then
    { r with
      txn := .read
      chosen :=
        match r.queue with
        | [] => .empty
        | e :: _ => .entry e }
  else { r with txn := .command, buffer := [b], byteCount := 1 }

/-- R148: after a reset with CSn_k low, the rise is awaited and nothing is taken. -/
def PortRec.blocked (r : PortRec) : Bool := r.awaitRise && decide (r.txn = .idle)

/-- The port as it stands when the first byte `b` of the transaction is whole: from IDLE by the fall
and the first byte, from FIRST_BYTE by the first byte; none when the transaction in progress began
with another byte (log 3). `i` are the status items at a fall taken now. -/
def PortRec.reach (r : PortRec) (i : StatusItems) (b : Byte) : Option PortRec :=
  match r.txn with
  | .idle => some ((r.fall i).firstByte b)
  | .firstByte => some (r.firstByte b)
  | .command => if r.buffer = [b] then some r else none
  | .read => if b = readCode then some r else none

/-- The `n` whole bytes the part shifts out in a transaction: the status byte, then the bytes of
`out`, then 0x00 (R151, R156). -/
def shiftOut (i : StatusItems) (out : List Byte) (n : Nat) : List Byte :=
  (statusByte i :: out).take n ++ List.replicate (n - (out.length + 1)) 0x00

/-- R158 step 4: a transaction of `n` whole bytes ends, having shifted out `out` after the status
byte. -/
def PortRec.finish (r : PortRec) (out : List Byte) (n : Nat) : PortRec :=
  { r with
    txn := .idle, buffer := [], byteCount := 0, bitCount := 0, chosen := .none
    shifted := shiftOut r.captured out n }

/-- The end of a transaction of port `p` (R158 step 4). -/
def State.finish (s : State) (p : Port) (out : List Byte) (n : Nat) : State :=
  s.setPort p ((s.port p).finish out n)

/-- R153, R155: the frame is dropped for lack of room. -/
def State.dropFrame (s : State) (p : Port) : State := s.setPort p (s.port p).drop

/-- R148: the rise of a chip select that has been low since a reset. -/
def State.riseAfterReset (s : State) (p : Port) : State :=
  s.setPort p { s.port p with awaitRise := false }

/-- R152 to R158: the rise of chip select that ends a sound frame of command `c`. The command is
taken, by `carry`, if the reply queue has room, and the frame is dropped otherwise. Every byte after
the status byte that the part shifts out is 0x00 (R151). -/
def State.takeCommand (s : State) (p : Port) (c : Command) (carry : State → State) : State :=
  if (s.port p).blocked then s.riseAfterReset p
  else
    match (s.port p).reach (s.statusItems p) (commandCode c) with
    | none => s
    | some r =>
      let s := s.setPort p r.clearShown
      let s := if (s.port p).hasRoom then carry s else s.dropFrame p
      s.finish p [] (bodyLength c + 4)

/-- An owning block's answer to a command: the result, the data of the reply, and the effect. -/
structure Response where
  result : Result
  data : List Byte
  effect : State → State

/-- A reply that changes nothing: a refusal, which carries no data (R170). -/
def refuse (r : Result) : Response := ⟨r, [], fun s => s⟩

/-- A reply with data that changes nothing: a status command. -/
def report (data : List Byte) : Response := ⟨.ok, data, fun s => s⟩

/-- R155: the command is carried out; its reply is placed before any notice of the same event. -/
def State.answer (s : State) (p : Port) (c : Command) (seq : Byte) (r : Response) : State :=
  r.effect (s.place p (.reply c seq r.result r.data))

/-- The taking of a command whose owner answers `respond` (R155). -/
def State.command (s : State) (p : Port) (c : Command) (seq : Byte) (respond : State → Response) :
    State :=
  s.takeCommand p c fun s => s.answer p c seq (respond s)

/-! ### The transaction rows -/

/-- CHIP_SELECT_FALL (R150). A fall during a transaction cannot come (log 2). -/
def execChipSelectFall (p : Port) (s : State) : Host.Outcome State Fault Refusal :=
  .next (if (s.port p).txn = .idle then s.setPort p ((s.port p).fall (s.statusItems p)) else s)

/-- FIRST_BYTE_WHOLE (R150, R151, R156). -/
def execFirstByteWhole (p : Port) (b : Byte) (s : State) : Host.Outcome State Fault Refusal :=
  .next (if (s.port p).txn = .firstByte then s.setPort p ((s.port p).firstByte b) else s)

/-- R157: the chosen entry, clocked out whole, leaves the head. -/
def PortRec.collect (r : PortRec) (clocked : Nat) : PortRec :=
  match r.chosen with
  | .entry e =>
    if (entryBytes e).length ≤ clocked then { r with queue := r.queue.tail } else r
  | .empty => r
  | .none => r

/-- READ_FRAME (R157, R158): the rise that ends a READ frame. -/
def execReadFrame (p : Port) (clocked : Nat) (s : State) : Host.Outcome State Fault Refusal :=
  .next (
    if (s.port p).blocked then s.riseAfterReset p
    else
      match (s.port p).reach (s.statusItems p) readCode with
      | none => s
      | some r =>
        (s.setPort p (r.collect clocked).clearShown).finish p (chosenBytes r.chosen) (clocked + 1))

/-- The port when the whole bytes `bytes` of a command frame have come: a transaction that ends
before its first byte is whole stays in FIRST_BYTE and marks no flag (R150, R151). -/
def PortRec.reachFrame (r : PortRec) (i : StatusItems) (bytes : List Byte) : Option PortRec :=
  match bytes with
  | b :: _ => r.reach i b
  | [] =>
    match r.txn with
    | .idle => some (r.fall i)
    | .firstByte => some r
    | .command => none
    | .read => none

/-- R151: the frame buffer keeps up to 31 bytes; the count stops at 255. -/
def PortRec.load (r : PortRec) (bytes : List Byte) (bits : Nat) : PortRec :=
  { r with buffer := bytes.take maxFrame, byteCount := receivedCount bytes, bitCount := bits }

/-- R153: the ERROR entry of the frame in the buffer. -/
def PortRec.errorOf (r : PortRec) (e : FrameError) : Entry :=
  .error e r.byteCount (r.buffer.headD 0x00) (r.buffer.getD 1 0x00)

/-- R152, R153: the checks of the frame in the buffer, and the ERROR entry or the drop. A frame that
passes every check is no ERROR_ENTRY. -/
def PortRec.answerFrame (r : PortRec) : PortRec :=
  match frameCheck r.buffer r.byteCount r.bitCount with
  | some e => if r.hasRoom then r.append (r.errorOf e) else r.drop
  | none => r

/-- ERROR_ENTRY (R152, R153, R158): the rise that ends a command frame which fails a check. With no
rising edge of SCK_k at all there is no frame to answer (R149). A frame that passes the checks, or a
READ frame, is not this event (log 21). -/
def execErrorEntry (p : Port) (bytes : List Byte) (bits : Nat) (s : State) :
    Host.Outcome State Fault Refusal :=
  .next (
    if (s.port p).blocked then s.riseAfterReset p
    else if errorFrameOk bytes bits then
      match (s.port p).reachFrame (s.statusItems p) bytes with
      | none => s
      | some r =>
        let r := r.clearShown
        let r := if bytes = [] ∧ bits = 0 then r else (r.load bytes bits).answerFrame
        (s.setPort p r).finish p [] bytes.length
    else s)

end Sys2Proof.Machine
end

