-- ==== Sys2Proof/Machine/LeaseCommands.lean ====
section
/-! DEFINITION. The lease commands: CLAIM (R12 to R14), WITHDRAW (R15), RENEW (R16), RELEASE (R17 to
R19), REVOKE (R21) and UNIT_STATUS (R23). -/

namespace Sys2Proof.Machine

/-- The present unit a unit byte names, if it names one (R1, R167). -/
def State.presentUnit (s : State) (b : Byte) : Option UnitNo :=
  match index4 b with
  | some u => if s.present u then some u else none
  | none => none

/-- A lease command on the present unit that its unit byte names, else NO_SUCH. -/
def onUnit (s : State) (b : Byte) (rest : UnitNo → Response) : Response :=
  match s.presentUnit b with
  | some u => rest u
  | none => refuse .noSuch

/-! ### CLAIM -/

/-- CLAIM's mode byte: WAIT is true, NOWAIT false (R167). -/
def claimModeOf (b : Byte) : Option Bool :=
  if b = 0x00 then some false else if b = 0x01 then some true else none

/-- R12 check 4: the requested period, mode and wait limit, each in range; a limit of 0 is none. -/
def readClaim (maxLease : Nat) (period : Half) (mode : Byte) (limit : Half) :
    Option (Nat × Bool × Option Nat) :=
  match claimModeOf mode with
  | some wait =>
    if 10 ≤ period.toNat ∧ period.toNat ≤ maxLease ∧ limit.toNat ≤ 60000 then
      some (period.toNat, wait, if limit.toNat = 0 then none else some limit.toNat)
    else none
  | none => none

/-- R14: the wait entry of a CLAIM taken at `now`. -/
def newWait (p : Port) (period : Nat) (limit : Option Nat) (now : Stamp) : WaitEntry :=
  { port := p, period := period, limit := limit, remaining := limit, claimedAt := now }

/-- R14: a wait entry joins at the tail of the wait list of unit `u`. -/
def State.joinWait (s : State) (u : UnitNo) (w : WaitEntry) : State :=
  s.setUnit u { s.unit u with wait := (s.unit u).wait ++ [w] }

/-- R12 to R14: a CLAIM of unit `u` whose fields are in range. -/
def claimInRange (p : Port) (s : State) (u : UnitNo) (period : Nat) (wait : Bool)
    (limit : Option Nat) : Response :=
  let r := s.unit u
  if r.ownedBy p then refuse .alreadyOwner
  else if r.wait.any fun w => decide (w.port = p) then refuse .duplicate
  else if r.lease = .free then
    ⟨.granted, [numByte u] ++ num2 period ++ [yesNo (s.tripped u)], fun s => s.grant u p period⟩
  else if wait then
    ⟨.queued, [numByte u, num1 (r.wait.length + 1)],
      fun s => s.joinWait u (newWait p period limit s.time.stamp)⟩
  else refuse .busy

/-- R12: CLAIM. -/
def claimResponse (p : Port) (unit : Byte) (period : Half) (mode : Byte) (limit : Half)
    (s : State) : Response :=
  if s.setup.phase ≠ .run then refuse .notRunning
  else onUnit s unit fun u =>
    if (s.unitEntry u).allowed.get p = false then refuse .denied
    else
      match readClaim (s.unitEntry u).maxLease period mode limit with
      | none => refuse .range
      | some (ms, wait, lim) => claimInRange p s u ms wait lim

/-- CLAIM. -/
def execClaim (p : Port) (seq unit : Byte) (period : Half) (mode : Byte) (limit : Half)
    (s : State) : Host.Outcome State Fault Refusal :=
  .next (s.command p .claim seq (claimResponse p unit period mode limit))

/-! ### WITHDRAW, RENEW -/

/-- R15: port `p` leaves the wait list of unit `u`. -/
def State.leaveWait (s : State) (u : UnitNo) (p : Port) : State :=
  s.setUnit u { s.unit u with wait := (s.unit u).wait.filter fun w => w.port ≠ p }

/-- R15: WITHDRAW. -/
def withdrawResponse (p : Port) (unit : Byte) (s : State) : Response :=
  onUnit s unit fun u =>
    if (s.unit u).wait.any fun w => decide (w.port = p) then
      ⟨.ok, [], fun s => s.leaveWait u p⟩
    else refuse .notWaiting

/-- WITHDRAW. -/
def execWithdraw (p : Port) (seq unit : Byte) (s : State) : Host.Outcome State Fault Refusal :=
  .next (s.command p .withdraw seq (withdrawResponse p unit))

/-- R3, R7, R16: the lease timer is set to the lease period and LEASE_LOW is armed. -/
def UnitRec.renewed (r : UnitRec) : UnitRec :=
  { r with remaining := r.period.getD 0, leaseLowArmed := true }

/-- R16: RENEW. -/
def renewResponse (p : Port) (unit : Byte) (s : State) : Response :=
  onUnit s unit fun u =>
    if (s.unit u).ownedBy p then
      ⟨.ok, [numByte u] ++ num2 (s.unit u).renewed.remaining,
        fun s => s.setUnit u (s.unit u).renewed⟩
    else refuse .notOwner

/-- RENEW. -/
def execRenew (p : Port) (seq unit : Byte) (s : State) : Host.Outcome State Fault Refusal :=
  .next (s.command p .renew seq (renewResponse p unit))

/-! ### RELEASE, REVOKE -/

/-- R17: the owner becomes the releasing port and LEASE_LOW is disarmed. -/
def UnitRec.toReleasing (r : UnitRec) : UnitRec :=
  { r with lease := .releasing, owner := none, releasing := r.owner, leaseLowArmed := false }

/-- R17, R65: FINISH: the unit is RELEASING, a RESTING leg turns its idle level off, and the unit
drains at once if every leg is idle and empty. -/
def State.finishLease (s : State) (u : UnitNo) : State :=
  ((s.setUnit u (s.unit u).toReleasing).onUnitStages u idleStage).drainCheck u

/-- R17: the OK reply to RELEASE carries the unit's lease state at the end of the event. -/
def releaseOk (s : State) (u : UnitNo) (effect : State → State) : Response :=
  ⟨.ok, [numByte u, leaseByte ((effect s).unit u).lease], effect⟩

/-- RELEASE's option byte: ABORT is true, FINISH false (R167). -/
def releaseOptionOf (b : Byte) : Option Bool :=
  if b = 0x00 then some false else if b = 0x01 then some true else none

/-- R17 to R19: RELEASE. -/
def releaseResponse (p : Port) (unit option : Byte) (s : State) : Response :=
  onUnit s unit fun u =>
    match releaseOptionOf option with
    | none => refuse .range
    | some abort =>
      if (s.unit u).ownedBy p then
        if abort then releaseOk s u fun s => s.abort u none
        else releaseOk s u fun s => s.finishLease u
      else if (s.unit u).releasedBy p then
        if abort then releaseOk s u fun s => s.abort u none else refuse .inProgress
      else refuse .notOwner

/-- RELEASE. -/
def execRelease (p : Port) (seq unit option : Byte) (s : State) :
    Host.Outcome State Fault Refusal :=
  .next (s.command p .release seq (releaseResponse p unit option))

/-- The unit is HELD or RELEASING. -/
def UnitRec.leased (r : UnitRec) : Bool := decide (r.lease = .held ∨ r.lease = .releasing)

/-- R21: REVOKE. -/
def revokeResponse (p : Port) (unit : Byte) (s : State) : Response :=
  if s.setup.phase ≠ .run then refuse .notRunning
  else onUnit s unit fun u =>
    if s.board.supervisor ≠ some p then refuse .notSupervisor
    else if (s.unit u).leased then
      ⟨.ok, [], fun s => s.abort u (some (.leaseLost u .revoked))⟩
    else refuse .nothingToRevoke

/-- REVOKE. -/
def execRevoke (p : Port) (seq unit : Byte) (s : State) : Host.Outcome State Fault Refusal :=
  .next (s.command p .revoke seq (revokeResponse p unit))

/-! ### UNIT_STATUS -/

/-- R170: one wait entry in UNIT_STATUS. -/
def waitData (w : WaitEntry) : List Byte := [numByte w.port] ++ num2 w.period

/-- R23, R170: UNIT_STATUS's data. -/
def unitStatusData (r : UnitRec) (t : TripRec) : List Byte :=
  [leaseByte r.lease, numOrNone r.holder] ++ num2 r.remaining ++ num2 r.quiet ++
    [causeByte (t.info.map TripInfo.cause), num1 r.wait.length] ++ r.wait.flatMap waitData

/-- R23: UNIT_STATUS. -/
def unitStatusResponse (unit : Byte) (s : State) : Response :=
  onUnit s unit fun u => report (unitStatusData (s.unit u) (s.trip u))

/-- UNIT_STATUS. -/
def execUnitStatus (p : Port) (seq unit : Byte) (s : State) : Host.Outcome State Fault Refusal :=
  .next (s.command p .unitStatus seq (unitStatusResponse unit))

end Sys2Proof.Machine
end

