-- ==== Sys2Proof/Machine/PinEvents.lean ====
section
/-! DEFINITION. The events of the part's pins: FAULT_N (R102), SYNC (R124, R128), VG (R113, R115)
and the sense inputs (R77, R79). The spec samples each pin once per wu. That a sample is taken when
its row is presented and at no other time, so that a wu without a row is not sampled and several
rows within one wu are each a sample, is the model's choice (logs 10 and 24). -/

namespace Sys2Proof.Machine

/-! ### FAULT_N -/

/-- FAULT_N_LOW_SPELL (R102): a low sample. After a high one it begins a spell, which in RUN makes
an EXTERNAL request for every present unit; in a spell it changes nothing. Every row is a
sample, and a wu without one is none: the model's choice (log 24). -/
def execFaultNLowSpell (s : State) : Host.Outcome State Fault Refusal :=
  .next (
    if s.faultN = .high then
      let s := { s with faultN := .low }
      if s.setup.phase = .run then s.tripAll else s
    else s)

/-- FAULT_N_RISE (R102): a high sample, which ends the spell and makes no request. Every row is a
sample, and a wu without one is none: the model's choice (log 24). -/
def execFaultNRise (s : State) : Host.Outcome State Fault Refusal :=
  .next { s with faultN := .high }

/-! ### SYNC -/

/-- R128: an edge offered to leg `l`: it counts only while the leg is GATED on ON_SYNC. -/
def State.offerEdge (s : State) (l : Leg) : State :=
  match (s.seq l).active with
  | none => s
  | some a =>
    match a.gate with
    | some (.edges n) =>
      if 2 ≤ n then s.setSeq l { s.seq l with active := some { a with gate := some (.edges (n - 1)) } }
      else s.openGate l
    | some .waiting => s
    | none => s

/-- R124: a rising edge: the counter, then the offer to each leg. -/
def State.syncEdge (s : State) : State :=
  four.foldl (fun s l => s.offerEdge l)
    (s.setTime { s.time with syncCount := s.time.syncCount + 1 })

/-- SYNC_RISING_EDGE (R124): a SYNC sample, an edge when it is high after a low one. R124 knows one
sample per wu. The model's choice (logs 8 and 24): every row is a sample, so a second one with no wu
passed can count a further edge, and a wu without a row is not sampled. So the first row after a
reset, however late, is the first sample, which is never an edge. -/
def execSyncRisingEdge (sample : Level) (s : State) : Host.Outcome State Fault Refusal :=
  let edge := decide (s.time.syncLast = some .low ∧ sample = .high)
  let s := s.setTime { s.time with syncLast := some sample }
  .next (if edge then s.syncEdge else s)

/-! ### VG -/

/-- SUPPLY_LEAVING_GOOD (R113, R115): a low sample in GOOD. R112 samples VG once per wu; that every
VG row presented is a sample, several in one wu included, and a wu without one is not sampled, is
the model's choice (log 24). -/
def execSupplyLeavingGood (vg : Nat) (s : State) : Host.Outcome State Fault Refusal :=
  .next (if s.supply.state = .good ∧ vgSample vg = .low then s.leaveGood else s)

/-- VG_HIGH_SAMPLE (R113, R114): a high sample in DOWN enters SETTLING and loads the settle timer;
in SETTLING and GOOD it changes nothing. R112 samples VG once per wu; that every VG row presented is
a sample, several in one wu included, and a wu without one is not sampled, is the model's choice
(log 24). -/
def execVgHighSample (vg : Nat) (s : State) : Host.Outcome State Fault Refusal :=
  .next (
    if s.supply.state = .down ∧ vgSample vg = .high then
      s.setSupplyRec { state := .settling, timer := s.board.settle }
    else s)

/-- VG_LOW_SAMPLE_SETTLING (R113): a low sample in SETTLING. R112 samples VG once per wu; that every
VG row presented is a sample, several in one wu included, and a wu without one is not sampled, is
the model's choice (log 24). -/
def execVgLowSampleSettling (vg : Nat) (s : State) : Host.Outcome State Fault Refusal :=
  .next (
    if s.supply.state = .settling ∧ vgSample vg = .low then
      s.setSupplyRec { state := .down, timer := 0 }
    else s)

/-! ### Sense inputs -/

/-- SENSE_SAMPLE (R76, R77, R79): the sample of one wu of input `n`; a wu without its row is
not judged, and a second row is judged again (the model's choice, log 10). -/
def execSenseSample (n : SenseNo) (sns vref : Nat) (s : State) :
    Host.Outcome State Fault Refusal :=
  .next (s.sample n (comparator (s.senseEntry n).threshold sns vref))

end Sys2Proof.Machine
end

