-- ==== Sys2Proof/Machine/PortCommands.lean ====
section
/-! DEFINITION. The commands the ports and the Timebase carry out: IDENT (R163), PORT_RESET (R25,
R147, R161) and READ_TIME (R125). -/

namespace Sys2Proof.Machine

/-- R163: the answer to IDENT. -/
def identResponse (s : State) : Response :=
  report
    [0xA7, 0x48, 0x01, resetCauseByte s.cause, phaseByte s.setup.phase,
      supplyByte s.supply.state, levelByte s.faultN]

/-- IDENT. -/
def execIdent (p : Port) (seq : Byte) (s : State) : Host.Outcome State Fault Refusal :=
  .next (s.command p .ident seq identResponse)

/-- R125: the answer to READ_TIME. -/
def readTimeResponse (s : State) : Response :=
  report (stampBytes s.time.stamp ++ halfBytes s.time.syncCount)

/-- READ_TIME. -/
def execReadTime (p : Port) (seq : Byte) (s : State) : Host.Outcome State Fault Refusal :=
  .next (s.command p .readTime seq readTimeResponse)

/-- R161 step 1: the queue is emptied and the flags cleared. -/
def PortRec.empty (r : PortRec) : PortRec :=
  { r with
    queue := [], dropped := false, missed := false, droppedShown := false, missedShown := false
    missedAnew := false }

/-- R25: port `p` leaves the wait list of unit `u`, which is aborted if `p` holds or is releasing
it. -/
def State.resetUnitFor (s : State) (p : Port) (u : UnitNo) : State :=
  if s.present u then
    let r := { s.unit u with wait := (s.unit u).wait.filter fun w => w.port ≠ p }
    let s := s.setUnit u r
    if r.ownedBy p || r.releasedBy p then s.abort u none else s
  else s

/-- R147: the setup lock is dropped if `p` holds it. -/
def State.dropLockOf (s : State) (p : Port) : State :=
  if s.setup.holder = some p then s.setLock none 0 else s

/-- R161: PORT_RESET is carried out. -/
def State.portReset (s : State) (p : Port) (seq : Byte) : State :=
  let s := s.setPort p (s.port p).empty
  let s := four.foldl (fun s u => s.resetUnitFor p u) s
  (s.dropLockOf p).place p (.reply .portReset seq .ok [])

/-- PORT_RESET. -/
def execPortReset (p : Port) (seq : Byte) (s : State) : Host.Outcome State Fault Refusal :=
  .next (s.takeCommand p .portReset fun s => s.portReset p seq)

end Sys2Proof.Machine
end

