-- ==== Sys2Proof/Machine/Resets.lean ====
section
/-! DEFINITION. The two resets of the whole part: POWER_ON_RESET and RST_N_RESET (R55, R129, R132,
R148, R163). A reset is one step, from its start to its end (log 14). -/

namespace Sys2Proof.Machine

/-- R148: the port record after a reset; with CSn_k low at its end the port waits for the rise. -/
def portAfterReset (csLow : BitVec 4) (p : Port) : PortRec :=
  { PortRec.reset with awaitRise := csLow.getLsbD p.val }

/-- The part after a reset of the given cause; the rows waiting outside the part stay in their
queue. -/
def State.resetBy (s : State) (c : ResetCause) (csLow : BitVec 4) : State :=
  { State.reset with
    pending := s.pending, cause := c, ports := Four.tabulate fun p => portAfterReset csLow p }

/-- POWER_ON_RESET (R163). -/
def execPowerOnReset (csLow : BitVec 4) (s : State) : Host.Outcome State Fault Refusal :=
  .next (s.resetBy .powerOn csLow)

/-- RST_N_RESET (R163). -/
def execRstNReset (csLow : BitVec 4) (s : State) : Host.Outcome State Fault Refusal :=
  .next (s.resetBy .pin csLow)

end Sys2Proof.Machine
end

