-- ==== Sys2Proof/Machine/SegmentCommands.lean ====
section
/-! DEFINITION. The segment commands: ENQUEUE (R41 to R43), FLUSH (R46, R47) and LEG_STATUS
(R51). -/

namespace Sys2Proof.Machine

/-- A segment command on the leg that its leg byte names, else NO_SUCH. -/
def onLeg (b : Byte) (rest : Leg → Response) : Response :=
  match index4 b with
  | some l => rest l
  | none => refuse .noSuch

/-- Port `p` owns the unit of leg `l`, which is then HELD (R41 check 3). -/
def State.ownsLeg (s : State) (p : Port) (l : Leg) : Bool := (s.unit (s.unitOf l)).ownedBy p

/-! ### ENQUEUE -/

/-- R42, R169: the segment record of an ENQUEUE that passes check 7 for the leg's entry. -/
def acceptSegment (e : LegEntry) (raw : RawSegment) : Option Segment :=
  match readSegment raw with
  | some g => if segmentInRange e g then some g else none
  | none => none

/-- R40, R43: a segment joins at the tail. On an IDLE leg it is taken at once; otherwise the
low-water flag is armed if the pending count is left above the mark (log 20). -/
def State.appendSegment (s : State) (l : Leg) (g : Segment) : State :=
  let q := s.seq l
  if q.active.isNone then (s.setSeq l { q with queue := q.queue ++ [g] }).take l
  else
    s.setSeq l
      { q with
        queue := q.queue ++ [g]
        lowArmed := q.lowArmed || decide ((s.legEntry l).lowWater < q.queue.length + 1) }

/-- R41, R43: ENQUEUE. The reply carries the pending count after the event. -/
def enqueueResponse (p : Port) (leg : Byte) (raw : RawSegment) (s : State) : Response :=
  if s.setup.phase ≠ .run then refuse .notRunning
  else onLeg leg fun l =>
    if s.ownsLeg p l = false then refuse .notOwner
    else if s.tripped (s.unitOf l) then refuse .tripped
    else if s.supply.state ≠ .good then refuse .supplyLow
    else if Config.pendingRoom ≤ (s.seq l).queue.length then refuse .full
    else
      match acceptSegment (s.legEntry l) raw with
      | none => refuse .range
      | some g =>
        ⟨.ok, [numByte l, num1 ((s.appendSegment l g).seq l).queue.length],
          fun s => s.appendSegment l g⟩

/-- ENQUEUE. -/
def execEnqueue (p : Port) (seq leg : Byte) (raw : RawSegment) (s : State) :
    Host.Outcome State Fault Refusal :=
  .next (s.command p .enqueue seq (enqueueResponse p leg raw))

/-! ### FLUSH -/

/-- R47, R72: FLUSH PENDING at the sequencer: the active segment is kept. -/
def LegSeq.flushPending (q : LegSeq) : LegSeq :=
  { q with queue := [], lowArmed := false, escalation := 0, cutSeen := false }

/-- R47: FLUSH ALL of leg `l`; the stage is told only of a cut. -/
def State.flushAll (s : State) (l : Leg) : State :=
  let cut := (s.seq l).active.isSome
  let s := s.setSeq l (s.seq l).flushed
  if cut then s.onStage l stopStage else s

/-- FLUSH's option byte: ALL is true, PENDING false (R167). -/
def flushOptionOf (b : Byte) : Option Bool :=
  if b = 0x00 then some false else if b = 0x01 then some true else none

/-- R46, R47: FLUSH. -/
def flushResponse (p : Port) (leg option : Byte) (s : State) : Response :=
  if s.setup.phase ≠ .run then refuse .notRunning
  else onLeg leg fun l =>
    if s.ownsLeg p l = false then refuse .notOwner
    else
      match flushOptionOf option with
      | none => refuse .range
      | some true =>
        ⟨.ok, [numByte l, num1 (s.seq l).discards] ++ optTag (s.seq l).activeTag,
          fun s => s.flushAll l⟩
      | some false =>
        ⟨.ok, [numByte l, num1 (s.seq l).queue.length] ++ optTag none,
          fun s => s.setSeq l (s.seq l).flushPending⟩

/-- FLUSH. -/
def execFlush (p : Port) (seq leg option : Byte) (s : State) : Host.Outcome State Fault Refusal :=
  .next (s.command p .flush seq (flushResponse p leg option))

/-! ### LEG_STATUS -/

/-- R51, R170: periods completed and current on-time as LEG_STATUS reports them. -/
def progressData (q : LegSeq) : List Byte :=
  match q.active with
  | none => num2 0 ++ num2 0
  | some a => num2 (if a.gate.isSome then 0 else a.completed) ++ num2 a.onTime

/-- R51, R170: LEG_STATUS's data. -/
def legStatusData (q : LegSeq) : List Byte :=
  [num1 (seqStateNum q.state * 64 + q.queue.length), q.activeTag.getD 0x00] ++ progressData q ++
    [num1 q.escalation] ++ (q.queue.take 13).map Segment.tag

/-- R51: LEG_STATUS. -/
def legStatusResponse (leg : Byte) (s : State) : Response :=
  onLeg leg fun l => report (legStatusData (s.seq l))

/-- LEG_STATUS. -/
def execLegStatus (p : Port) (seq leg : Byte) (s : State) : Host.Outcome State Fault Refusal :=
  .next (s.command p .legStatus seq (legStatusResponse leg))

end Sys2Proof.Machine
end

