-- ==== Sys2Proof/Machine/SetupCommands.lean ====
section
/-! DEFINITION. The commands of the Setup Controller: the setup lock (R134, R136), the writing of
the board table (R138 to R143), READ_CONFIG (R144) and COMMIT (R145, R146). -/

namespace Sys2Proof.Machine

/-! ### The setup lock -/

/-- R134: OPEN_SETUP. -/
def openSetupResponse (p : Port) (s : State) : Response :=
  if s.setup.phase ≠ .setup then refuse .notSetup
  else
    match s.setup.holder with
    | none => ⟨.ok, [], fun s => s.setLock (some p) Config.lockLimit⟩
    | some h =>
      if h = p then ⟨.ok, [], fun s => s.setLock (some p) Config.lockLimit⟩
      else ⟨.setupBusy, [numByte h], fun s => s⟩

/-- OPEN_SETUP. -/
def execOpenSetup (p : Port) (seq : Byte) (s : State) : Host.Outcome State Fault Refusal :=
  .next (s.command p .openSetup seq (openSetupResponse p))

/-- R136: CLOSE_SETUP. -/
def closeSetupResponse (p : Port) (s : State) : Response :=
  if s.setup.phase ≠ .setup then refuse .notSetup
  else if s.setup.holder ≠ some p then refuse .notHolder
  else ⟨.ok, [], fun s => s.setLock none 0⟩

/-- CLOSE_SETUP. -/
def execCloseSetup (p : Port) (seq : Byte) (s : State) : Host.Outcome State Fault Refusal :=
  .next (s.command p .closeSetup seq (closeSetupResponse p))

/-! ### Writing the table -/

/-- R138 checks 1 and 2, then the rest. -/
def asHolder (p : Port) (s : State) (rest : Response) : Response :=
  if s.setup.phase ≠ .setup then refuse .notSetup
  else if s.setup.holder ≠ some p then refuse .notHolder
  else rest

/-- R135, R138: a group is written, the timer reloaded, and the answer is OK. -/
def written (p : Port) (write : State → State) : Response :=
  ⟨.ok, [], fun s => (write s).setLock (some p) Config.lockLimit⟩

/-- R138 check 4, then the writing. -/
def writeOrRange {α : Type} (p : Port) (v : Option α) (write : α → State → State) : Response :=
  match v with
  | none => refuse .range
  | some v => written p (write v)

/-- R139: the unit map written; a unit made present gets records with the reset values, a unit made
absent loses them (log 15), and a unit present before and after keeps its own. -/
def State.setUnitMap (s : State) (m : Four UnitNo) : State :=
  let keeps := fun u => s.present u && unitPresent m u
  { s with
    setup := { s.setup with board := { s.setup.board with unitMap := m } }
    units := s.units.mapIdx fun u r => if keeps u then r else .reset
    trips := s.trips.mapIdx fun u t => if keeps u then t else .reset }

/-- R139: the four units of a map. -/
def readUnitMap (u0 u1 u2 u3 : Byte) : Option (Four UnitNo) :=
  match index4 u0, index4 u1, index4 u2, index4 u3 with
  | some a, some b, some c, some d => some ⟨a, b, c, d⟩
  | _, _, _, _ => none

/-- R138, R139: SET_UNIT_MAP. -/
def setUnitMapResponse (p : Port) (u0 u1 u2 u3 : Byte) (s : State) : Response :=
  asHolder p s (writeOrRange p (readUnitMap u0 u1 u2 u3) fun m s => s.setUnitMap m)

/-- SET_UNIT_MAP. -/
def execSetUnitMap (p : Port) (seq u0 u1 u2 u3 : Byte) (s : State) :
    Host.Outcome State Fault Refusal :=
  .next (s.command p .setUnitMap seq (setUnitMapResponse p u0 u1 u2 u3))

/-- R138, R140: the values of a leg entry, each within its range. -/
def readLegEntry (kind : Byte) (dt minOn maxOn : Half) (idle lowWater escalation : Byte) :
    Option LegEntry :=
  match kindOf kind, idleOf idle with
  | some k, some i =>
    if dt.toNat ≤ 1023 ∧ 1 ≤ minOn.toNat ∧ 1 ≤ maxOn.toNat ∧ lowWater.toNat ≤ 15 ∧
        escalation.toNat ≤ 15 then
      some
        { kind := k, dt := dt.toNat, minOn := minOn.toNat, maxOn := maxOn.toNat, idle := i
          lowWater := lowWater.toNat, escalation := escalation.toNat }
    else none
  | _, _ => none

/-- R140: one leg entry written. -/
def State.setLegEntry (s : State) (l : Leg) (e : LegEntry) : State :=
  s.setBoard { s.board with legs := s.board.legs.set l e }

/-- R138, R140: SET_LEG. -/
def setLegResponse (p : Port) (leg kind : Byte) (dt minOn maxOn : Half)
    (idle lowWater escalation : Byte) (s : State) : Response :=
  asHolder p s
    (match index4 leg with
    | none => refuse .noSuch
    | some l =>
      writeOrRange p (readLegEntry kind dt minOn maxOn idle lowWater escalation) fun e s =>
        s.setLegEntry l e)

/-- SET_LEG. -/
def execSetLeg (p : Port) (seq leg kind : Byte) (dt minOn maxOn : Half)
    (idle lowWater escalation : Byte) (s : State) : Host.Outcome State Fault Refusal :=
  .next (s.command p .setLeg seq (setLegResponse p leg kind dt minOn maxOn idle lowWater escalation))

/-- R138, R141: the values of a unit entry, each within its range. -/
def readUnitEntry (allowed : Byte) (quiet maxLease : Half) : Option UnitEntry :=
  match portSetOf allowed with
  | some a =>
    if quiet.toNat ≤ 50000 ∧ 10 ≤ maxLease.toNat ∧ maxLease.toNat ≤ 60000 then
      some { allowed := a, quiet := quiet.toNat, maxLease := maxLease.toNat }
    else none
  | none => none

/-- R141: one unit entry written. -/
def State.setUnitEntry (s : State) (u : UnitNo) (e : UnitEntry) : State :=
  s.setBoard { s.board with units := s.board.units.set u e }

/-- R138, R141: SET_UNIT. -/
def setUnitResponse (p : Port) (unit allowed : Byte) (quiet maxLease : Half) (s : State) :
    Response :=
  asHolder p s
    (match index4 unit with
    | none => refuse .noSuch
    | some u =>
      writeOrRange p (readUnitEntry allowed quiet maxLease) fun e s => s.setUnitEntry u e)

/-- SET_UNIT. -/
def execSetUnit (p : Port) (seq unit allowed : Byte) (quiet maxLease : Half) (s : State) :
    Host.Outcome State Fault Refusal :=
  .next (s.command p .setUnit seq (setUnitResponse p unit allowed quiet maxLease))

/-- R138, R142: the values of a sense entry, each within its range. -/
def readSenseEntry (action target code polarity window blank qualify : Byte) :
    Option SenseEntry :=
  match actionOf action, index4 target, polarityOf polarity, windowOf window with
  | some a, some l, some o, some w =>
    if code.toNat ≤ 63 ∧ 1 ≤ qualify.toNat ∧ qualify.toNat ≤ 16 then
      some
        { action := a, target := l, threshold := code.toNat, polarity := o, window := w
          blank := blank.toNat, qualify := qualify.toNat }
    else none
  | _, _, _, _ => none

/-- R142: one sense entry written. -/
def State.setSenseEntry (s : State) (n : SenseNo) (e : SenseEntry) : State :=
  s.setBoard { s.board with senses := s.board.senses.set n e }

/-- R138, R142: SET_SENSE. -/
def setSenseResponse (p : Port) (sense action target code polarity window blank qualify : Byte)
    (s : State) : Response :=
  asHolder p s
    (match index8 sense with
    | none => refuse .noSuch
    | some n =>
      writeOrRange p (readSenseEntry action target code polarity window blank qualify) fun e s =>
        s.setSenseEntry n e)

/-- SET_SENSE. -/
def execSetSense (p : Port)
    (seq sense action target code polarity window blank qualify : Byte) (s : State) :
    Host.Outcome State Fault Refusal :=
  .next (s.command p .setSense seq
    (setSenseResponse p sense action target code polarity window blank qualify))

/-- R143, R167: a port number, or 0xFF for none. -/
def readSupervisor (port : Byte) : Option (Option Port) :=
  if port = 0xFF then some none else (index4 port).map some

/-- R138, R143: SET_SUPERVISOR. -/
def setSupervisorResponse (p : Port) (port : Byte) (s : State) : Response :=
  asHolder p s (writeOrRange p (readSupervisor port) fun v s =>
    s.setBoard { s.board with supervisor := v })

/-- SET_SUPERVISOR. -/
def execSetSupervisor (p : Port) (seq port : Byte) (s : State) :
    Host.Outcome State Fault Refusal :=
  .next (s.command p .setSupervisor seq (setSupervisorResponse p port))

/-- R143: a settle time of 1 to 255 ms. -/
def readSettle (settle : Byte) : Option Nat :=
  if settle.toNat = 0 then none else some settle.toNat

/-- R138, R143: SET_SUPPLY. -/
def setSupplyResponse (p : Port) (settle : Byte) (s : State) : Response :=
  asHolder p s (writeOrRange p (readSettle settle) fun v s =>
    s.setBoard { s.board with settle := v })

/-- SET_SUPPLY. -/
def execSetSupply (p : Port) (seq settle : Byte) (s : State) : Host.Outcome State Fault Refusal :=
  .next (s.command p .setSupply seq (setSupplyResponse p settle))

/-! ### Reading the table -/

/-- R170: READ_CONFIG's data for a leg. -/
def legConfig (e : LegEntry) : List Byte :=
  [kindByte e.kind] ++ num2 e.dt ++ num2 e.minOn ++ num2 e.maxOn ++
    [idleByte e.idle, num1 e.lowWater, num1 e.escalation]

/-- R170: READ_CONFIG's data for a unit. -/
def unitConfig (e : UnitEntry) (present : Bool) : List Byte :=
  [portSetByte e.allowed] ++ num2 e.quiet ++ num2 e.maxLease ++ [yesNo present]

/-- R170: READ_CONFIG's data for a sense input. -/
def senseConfig (e : SenseEntry) : List Byte :=
  [actionByte e.action, numByte e.target, num1 e.threshold, polarityByte e.polarity,
    windowByte e.window, num1 e.blank, num1 e.qualify]

/-- R170: READ_CONFIG's data for the whole part. -/
def wholeConfig (c : Setup) : List Byte :=
  [numByte c.board.unitMap.e0, numByte c.board.unitMap.e1, numByte c.board.unitMap.e2,
    numByte c.board.unitMap.e3, numOrNone c.board.supervisor, num1 c.board.settle,
    phaseByte c.phase, numOrNone c.holder]

/-- R144, R167: READ_CONFIG. -/
def readConfigResponse (kind index : Byte) (s : State) : Response :=
  if kind = 0x00 then
    match index4 index with
    | some l => report (legConfig (s.legEntry l))
    | none => refuse .noSuch
  else if kind = 0x01 then
    match index4 index with
    | some u => report (unitConfig (s.unitEntry u) (s.present u))
    | none => refuse .noSuch
  else if kind = 0x02 then
    match index8 index with
    | some n => report (senseConfig (s.senseEntry n))
    | none => refuse .noSuch
  else if kind = 0x03 then
    if index = 0x00 then report (wholeConfig s.setup) else refuse .noSuch
  else refuse .range

/-- READ_CONFIG. -/
def execReadConfig (p : Port) (seq kind index : Byte) (s : State) :
    Host.Outcome State Fault Refusal :=
  .next (s.command p .readConfig seq (readConfigResponse kind index))

/-! ### COMMIT -/

/-- A failing item of COMMIT: its kind, its index and the reason code (R145). -/
structure TableFault where
  kind : Byte
  index : Byte
  reason : Byte
deriving DecidableEq, Repr

/-- The kind has a high-side gate (R54). -/
def hasHigh : LegKind → Bool
  | .halfBridge => true
  | .highSide => true
  | .lowSide => false
/-- The kind has a low-side gate (R54). -/
def hasLow : LegKind → Bool
  | .halfBridge => true
  | .highSide => false
  | .lowSide => true

/-- R145 check 1 for one leg: the reason of the first condition that fails. -/
def legReason (e : LegEntry) : Option Byte :=
  if e.maxOn < e.minOn then some 1
  else if e.kind = .halfBridge ∧ e.dt < 4 then some 2
  else if e.idle = .low ∧ hasLow e.kind = false then some 3
  else none

/-- R145 check 2 for one unit. -/
def unitReason (e : UnitEntry) (present : Bool) : Option Byte :=
  if present = true ∧ e.allowed = ⟨false, false, false, false⟩ then some 4 else none

/-- R145 check 3 for one sense input whose target has kind `k`. -/
def senseReason (e : SenseEntry) (k : LegKind) : Option Byte :=
  if e.action = .none then none
  else if e.window = .highOn ∧ hasHigh k = false then some 5
  else if e.window = .lowOn ∧ hasLow k = false then some 6
  else if e.action = .cycle ∧ e.window ≠ .highOn then some 7
  else none

/-- The first item of a check that fails, with its index. -/
def firstFault {n : Nat} (kind : Byte) (items : List (Fin n)) (reason : Fin n → Option Byte) :
    Option TableFault :=
  items.findSome? fun i => (reason i).map fun r => ⟨kind, BitVec.ofNat 8 i.val, r⟩

/-- R145: the first failing item of the table. -/
def tableFault (b : Board) : Option TableFault :=
  (firstFault 0x00 four fun l => legReason (b.legs.get l)).orElse fun _ =>
    (firstFault 0x01 four fun u => unitReason (b.units.get u) (unitPresent b.unitMap u)).orElse
      fun _ =>
        (firstFault 0x02 eight fun n =>
            senseReason (b.senses.get n) (b.legs.get (b.senses.get n).target).kind).orElse fun _ =>
          if four.any (unitPresent b.unitMap) then none else some ⟨0x03, 0x00, 8⟩

/-- R78: a sense input at COMMIT: armed with an empty count when its action is not NONE. -/
def armSense (e : SenseEntry) (r : SenseRec) : SenseRec :=
  { r with
    armed := decide (e.action ≠ .none), count := 0, qualified := false, rearm := true }

/-- R146 steps 1 to 4. -/
def State.enterRun (s : State) : State :=
  { s with
    setup := { s.setup with phase := .run, holder := none, inactivity := 0 }
    units := s.units.mapIdx fun u r => if s.present u then .reset else r
    trips := s.trips.mapIdx fun u t => if s.present u then .reset else t
    senses := s.senses.mapIdx fun n r => armSense (s.senseEntry n) r }

/-- R103, R146 step 6: the FAULT_N check that follows COMMIT. -/
def State.faultCheck (s : State) : State := if s.faultN = .low then s.tripAll else s

/-- R145, R146: COMMIT. -/
def commitResponse (p : Port) (s : State) : Response :=
  asHolder p s
    (match tableFault s.board with
    | some f =>
      ⟨.invalidTable, [f.kind, f.index, f.reason], fun s => s.setLock (some p) Config.lockLimit⟩
    | none => ⟨.ok, [], fun s => s.enterRun.faultCheck⟩)

/-- COMMIT. -/
def execCommit (p : Port) (seq : Byte) (s : State) : Host.Outcome State Fault Refusal :=
  .next (s.command p .commit seq (commitResponse p))

end Sys2Proof.Machine
end

