-- ==== Sys2Proof/Machine/TimeEvents.lean ====
section
/-! DEFINITION. The events of the part's timers: the timestamp step (R121), the millisecond tick
(R122), and what falls due by them (R6, R8, R9, R11, R119, R127, R135). -/

namespace Sys2Proof.Machine

/-- R4: one microsecond of the quiet timer. -/
def UnitRec.quietStep (r : UnitRec) : UnitRec :=
  if r.lease = .quiet then { r with quiet := r.quiet - 1 } else r

/-- R121, R122: one step of the timestamp and of the sub-millisecond count. -/
def Timebase.step (t : Timebase) : Timebase :=
  if t.subMs + 1 = Config.stepsPerTick then
    { t with stamp := t.stamp + 1, subMs := 0, wu := 0, ticksDue := t.ticksDue + 1 }
  else { t with stamp := t.stamp + 1, subMs := t.subMs + 1, wu := 0 }

/-- TIMESTAMP_STEP (R121, R122): the timestamp, the quiet timers and the sub-millisecond count. A
gate that the step opens, a quiet interval that it ends and a tick that it draws are then due. -/
def execTimestampStep (s : State) : Host.Outcome State Fault Refusal :=
  .next ((s.setUnits (s.units.mapIdx fun _ r => r.quietStep)).setTime s.time.step)

/-- R11: one millisecond of a wait entry. -/
def WaitEntry.tick (w : WaitEntry) : WaitEntry :=
  { w with remaining := w.remaining.map fun n => n - 1 }

/-- R7: the tick has brought lease remaining down to the threshold in HELD with LEASE_LOW armed. -/
def UnitRec.leaseLowDue (r : UnitRec) : Bool :=
  match r.period with
  | some period =>
    r.leaseLowArmed && decide (r.lease = .held ∧ r.remaining = leaseLowThreshold period)
  | none => false

/-- R3, R11: one millisecond of a unit record's lease and wait timers. -/
def UnitRec.tick (r : UnitRec) : UnitRec :=
  { r with
    remaining := if r.lease = .held ∨ r.lease = .releasing then r.remaining - 1 else r.remaining
    wait := r.wait.map WaitEntry.tick }

/-- R3, R7, R11: the tick at unit `u`. -/
def State.tickUnit (s : State) (u : UnitNo) : State :=
  let r := (s.unit u).tick
  if r.leaseLowDue then
    (s.setUnit u { r with leaseLowArmed := false }).notifyOpt r.owner (.leaseLow u r.remaining)
  else s.setUnit u r

/-- R113: one millisecond of the settle timer. -/
def Supply.tick (v : Supply) : Supply :=
  if v.state = .settling then { v with timer := v.timer - 1 } else v

/-- R135: one millisecond of the setup lock's inactivity timer. -/
def Setup.tick (c : Setup) : Setup :=
  if c.holder.isSome then { c with inactivity := c.inactivity - 1 } else c

/-- MILLISECOND_TICK (R122): every timer that counts in milliseconds. When one tick brings several
units to their LEASE_LOW thresholds, the notices are placed from U0 to U3: the model's choice
(log 6). -/
def execMillisecondTick (s : State) : Host.Outcome State Fault Refusal :=
  let s := s.setTime { s.time with ticksDue := s.time.ticksDue - 1 }
  let s := { s with setup := s.setup.tick, supply := s.supply.tick }
  .next (four.foldl (fun s u => s.tickUnit u) s)

/-- SETTLE_TIMER_EXPIRY (R113, R119). -/
def execSettleTimerExpiry (s : State) : Host.Outcome State Fault Refusal :=
  .next (if s.settleDue then s.enterGood else s)

/-- LEASE_EXPIRY (R8, R9). -/
def execLeaseExpiry (u : UnitNo) (s : State) : Host.Outcome State Fault Refusal :=
  .next (if s.leaseDue u then s.abort u (some (.leaseLost u .expired)) else s)

/-- QUIET_END (R6). -/
def execQuietEnd (u : UnitNo) (s : State) : Host.Outcome State Fault Refusal :=
  .next (if s.quietDue u then s.endQuiet u else s)

/-- CLAIM_TIMEOUT (R11). -/
def execClaimTimeout (u : UnitNo) (p : Port) (s : State) : Host.Outcome State Fault Refusal :=
  .next (
    if s.timeoutDue u p then
      (s.setUnit u
        { s.unit u with wait := (s.unit u).wait.filter fun w => !w.expired p }).notify p
        (.claimTimeout u)
    else s)

/-- SETUP_LOCK_INACTIVITY_EXPIRY (R135). -/
def execSetupLockInactivityExpiry (s : State) : Host.Outcome State Fault Refusal :=
  .next (if s.lockDue then s.setLock none 0 else s)

/-- AT_TIME_OPENING (R127). -/
def execAtTimeOpening (l : Leg) (s : State) : Host.Outcome State Fault Refusal :=
  .next (if s.atTimeDue l then s.openGate l else s)

end Sys2Proof.Machine
end

