-- ==== Sys2Proof/Machine/TripCommands.lean ====
section
/-! DEFINITION. The sense and trip commands: SENSE_STATUS (R92), READ_TRIP (R110) and CLEAR_TRIP
(R105, R106). -/

namespace Sys2Proof.Machine

/-- R92, R170: SENSE_STATUS's data: raw levels, qualified flags, armed flags. -/
def senseStatusData (t : Eight SenseRec) : List Byte :=
  [flagsByte (t.mapIdx fun _ r => decide (r.raw = .high)),
    flagsByte (t.mapIdx fun _ r => r.qualified), flagsByte (t.mapIdx fun _ r => r.armed)]

/-- R92: SENSE_STATUS. -/
def senseStatusResponse (s : State) : Response := report (senseStatusData s.senses)

/-- SENSE_STATUS. -/
def execSenseStatus (p : Port) (seq : Byte) (s : State) : Host.Outcome State Fault Refusal :=
  .next (s.command p .senseStatus seq senseStatusResponse)

/-- R110, R170: the trip record's part of READ_TRIP up to the discarded count. -/
def tripInfoData : Option TripInfo → List Byte
  | none => [causeByte none, 0xFF] ++ stampBytes 0 ++ optTag none ++ [0xFF, 0x00]
  | some i =>
    [causeByte (some i.cause), numOrNone i.leg] ++ stampBytes i.stamp ++ optTag i.tag ++
      [numOrNone i.owner, num1 i.discarded]

/-- R110, R170: READ_TRIP's data. -/
def readTripData (t : TripRec) (fault : Level) : List Byte :=
  tripInfoData t.info ++ [yesNo t.laterExternal, t.laterSenses, levelByte fault]

/-- R110: READ_TRIP. -/
def readTripResponse (unit : Byte) (s : State) : Response :=
  onUnit s unit fun u => report (readTripData (s.trip u) s.faultN)

/-- READ_TRIP. -/
def execReadTrip (p : Port) (seq unit : Byte) (s : State) : Host.Outcome State Fault Refusal :=
  .next (s.command p .readTrip seq (readTripResponse unit))

/-- R72: the escalation counter and cut-seen flag of every leg of unit `u` are reset. -/
def State.resetEscalation (s : State) (u : UnitNo) : State :=
  s.setSeqs (s.seqs.mapIdx fun l q =>
    if s.unitOf l = u then { q with escalation := 0, cutSeen := false } else q)

/-- R106: the trip of unit `u` is cleared and its legs leave FORCED if drive is permitted. -/
def State.clearTrip (s : State) (u : UnitNo) : State :=
  ((s.setTrip u .reset).resetEscalation u).restoreUnit u

/-- R105, R106: CLEAR_TRIP. -/
def clearTripResponse (p : Port) (unit : Byte) (s : State) : Response :=
  if s.setup.phase ≠ .run then refuse .notRunning
  else onUnit s unit fun u =>
    if (s.unit u).ownedBy p = false then refuse .notOwner
    else if s.tripped u = false then refuse .notTripped
    else if s.faultN = .low ∨ s.latchHold u = true then refuse .stillActive
    else ⟨.ok, [numByte u], fun s => s.clearTrip u⟩

/-- CLEAR_TRIP. -/
def execClearTrip (p : Port) (seq unit : Byte) (s : State) : Host.Outcome State Fault Refusal :=
  .next (s.command p .clearTrip seq (clearTripResponse p unit))

end Sys2Proof.Machine
end

