-- ==== Sys2Proof/Machine/WaveEvents.lean ====
section
/-! DEFINITION. The events of the waveform clock at a leg: period end (R36), decision point (R38),
a gate change of the layout (R60 to R62), the end of the dead-time guard (R57) and of the leading
dead time (R66). -/

namespace Sys2Proof.Machine

/-- PERIOD_END (R36, R59): the position has reached the period. -/
def execPeriodEnd (l : Leg) (s : State) : Host.Outcome State Fault Refusal :=
  .next (
    if s.periodDue l then
      match (s.stage l).state, (s.seq l).active with
      | .playing lay _, some a => s.endPeriod l a lay
      | _, _ => s
    else s)

/-- R38, R62: the stage when its period has been judged: a final HOLD_LOW period turns GL off in the
same event. -/
def judgeStage (final : Bool) (e : LegEntry) (held : Bool) (st : Stage) : Stage :=
  match st.state with
  | .playing lay pos =>
    settleStage e held
      { st with state := .playing { lay with judged := true, final := lay.final || final } pos }
  | .forced => st
  | .resting => st
  | .leading _ => st
  | .waiting => st

/-- DECISION_POINT (R38, R62). -/
def execDecisionPoint (l : Leg) (s : State) : Host.Outcome State Fault Refusal :=
  .next (if s.decisionDue l then s.onStage l (judgeStage (s.judgedFinal l)) else s)

/-- LAYOUT_GATE_CHANGE (R60 to R62). -/
def execLayoutGateChange (l : Leg) (s : State) : Host.Outcome State Fault Refusal :=
  .next (if s.changeDue l then s.onStage l settleStage else s)

/-- DEAD_TIME_GUARD_EXPIRY (R57): the guarded gates become none and a turn-on still asked for takes
place. -/
def execDeadTimeGuardExpiry (l : Leg) (s : State) : Host.Outcome State Fault Refusal :=
  .next (if s.guardDue l then s.onStage l releaseStage else s)

/-- R66: the stage when the leading dead time has passed. -/
def leadStage (e : LegEntry) (held : Bool) (st : Stage) : Stage :=
  match st.state with
  | .leading lay => beginPeriod e held lay st
  | .forced => st
  | .resting => st
  | .playing _ _ => st
  | .waiting => st

/-- LEADING_DEAD_TIME_END (R66). -/
def execLeadingDeadTimeEnd (l : Leg) (s : State) : Host.Outcome State Fault Refusal :=
  .next (if s.leadDue l then s.onStage l leadStage else s)

end Sys2Proof.Machine
end

