-- ==== Sys2Proof/Machine/Dispatch.lean ====
section
/-! DEFINITION. The meaning of every row of the opcode table: one arm per constructor of `Instr`. -/

namespace Sys2Proof.Machine

/-- The effect of a row on everything but the queue of waiting rows. -/
def exec (i : Instr) (s : State) : Host.Outcome State Fault Refusal :=
  match i with
  | .ident p seq => Sys2Proof.Machine.execIdent p seq s
  | .portReset p seq => Sys2Proof.Machine.execPortReset p seq s
  | .readTime p seq => Sys2Proof.Machine.execReadTime p seq s
  | .openSetup p seq => Sys2Proof.Machine.execOpenSetup p seq s
  | .closeSetup p seq => Sys2Proof.Machine.execCloseSetup p seq s
  | .setUnitMap p seq u0 u1 u2 u3 => Sys2Proof.Machine.execSetUnitMap p seq u0 u1 u2 u3 s
  | .setLeg p seq leg kind dt minOn maxOn idle lowWater escalation => Sys2Proof.Machine.execSetLeg p seq leg kind dt minOn maxOn idle lowWater escalation s
  | .setUnit p seq unit allowed quiet maxLease => Sys2Proof.Machine.execSetUnit p seq unit allowed quiet maxLease s
  | .setSense p seq sense action target code polarity window blank qualify => Sys2Proof.Machine.execSetSense p seq sense action target code polarity window blank qualify s
  | .setSupervisor p seq port => Sys2Proof.Machine.execSetSupervisor p seq port s
  | .setSupply p seq settle => Sys2Proof.Machine.execSetSupply p seq settle s
  | .readConfig p seq kind index => Sys2Proof.Machine.execReadConfig p seq kind index s
  | .commit p seq => Sys2Proof.Machine.execCommit p seq s
  | .claim p seq unit period mode limit => Sys2Proof.Machine.execClaim p seq unit period mode limit s
  | .withdraw p seq unit => Sys2Proof.Machine.execWithdraw p seq unit s
  | .renew p seq unit => Sys2Proof.Machine.execRenew p seq unit s
  | .release p seq unit option => Sys2Proof.Machine.execRelease p seq unit option s
  | .revoke p seq unit => Sys2Proof.Machine.execRevoke p seq unit s
  | .unitStatus p seq unit => Sys2Proof.Machine.execUnitStatus p seq unit s
  | .enqueue p seq leg raw => Sys2Proof.Machine.execEnqueue p seq leg raw s
  | .flush p seq leg option => Sys2Proof.Machine.execFlush p seq leg option s
  | .legStatus p seq leg => Sys2Proof.Machine.execLegStatus p seq leg s
  | .senseStatus p seq => Sys2Proof.Machine.execSenseStatus p seq s
  | .readTrip p seq unit => Sys2Proof.Machine.execReadTrip p seq unit s
  | .clearTrip p seq unit => Sys2Proof.Machine.execClearTrip p seq unit s
  | .readFrame p clocked => Sys2Proof.Machine.execReadFrame p clocked s
  | .errorEntry p bytes bits => Sys2Proof.Machine.execErrorEntry p bytes bits s
  | .powerOnReset csLow => Sys2Proof.Machine.execPowerOnReset csLow s
  | .rstNReset csLow => Sys2Proof.Machine.execRstNReset csLow s
  | .faultNLowSpell => Sys2Proof.Machine.execFaultNLowSpell s
  | .syncRisingEdge sample => Sys2Proof.Machine.execSyncRisingEdge sample s
  | .supplyLeavingGood vg => Sys2Proof.Machine.execSupplyLeavingGood vg s
  | .vgHighSample vg => Sys2Proof.Machine.execVgHighSample vg s
  | .vgLowSampleSettling vg => Sys2Proof.Machine.execVgLowSampleSettling vg s
  | .settleTimerExpiry => Sys2Proof.Machine.execSettleTimerExpiry s
  | .timestampStep => Sys2Proof.Machine.execTimestampStep s
  | .millisecondTick => Sys2Proof.Machine.execMillisecondTick s
  | .leaseExpiry u => Sys2Proof.Machine.execLeaseExpiry u s
  | .quietEnd u => Sys2Proof.Machine.execQuietEnd u s
  | .claimTimeout u p => Sys2Proof.Machine.execClaimTimeout u p s
  | .setupLockInactivityExpiry => Sys2Proof.Machine.execSetupLockInactivityExpiry s
  | .atTimeOpening l => Sys2Proof.Machine.execAtTimeOpening l s
  | .periodEnd l => Sys2Proof.Machine.execPeriodEnd l s
  | .decisionPoint l => Sys2Proof.Machine.execDecisionPoint l s
  | .layoutGateChange l => Sys2Proof.Machine.execLayoutGateChange l s
  | .deadTimeGuardExpiry l => Sys2Proof.Machine.execDeadTimeGuardExpiry l s
  | .leadingDeadTimeEnd l => Sys2Proof.Machine.execLeadingDeadTimeEnd l s
  | .senseSample n sns vref => Sys2Proof.Machine.execSenseSample n sns vref s
  | .chipSelectFall p => Sys2Proof.Machine.execChipSelectFall p s
  | .firstByteWhole p b => Sys2Proof.Machine.execFirstByteWhole p b s
  | .faultNRise => Sys2Proof.Machine.execFaultNRise s

end Sys2Proof.Machine
end

