-- ==== Sys2Proof/Machine/Step.lean ====
section
/-! DEFINITION. One step of the part: the row at the front of the queue, or, on an empty queue, what
the part's own clock does next. -/

namespace Sys2Proof.Machine

/-- The row at the front of the queue is taken with the queue's rest. On an empty queue the first
event that is due is taken; when none is due, one wu of the waveform clock passes (DESIGN CHOICE,
log 1). -/
def step (s : State) : Host.Outcome State Fault Refusal :=
  match s.pending with
  | i :: rest => exec i { s with pending := rest }
  | [] =>
    match s.dueRows with
    | i :: _ => exec i s
    | [] => .next s.wu

/-- The state with the row a word spells at the front of its queue; no word spells one (log 4). -/
def State.withFetchWord (s : State) (nbits w : Nat) : State :=
  match Sys2Proof.decodeTableWord nbits w with
  | some i => { s with pending := i :: s.pending }
  | none => s

end Sys2Proof.Machine
end

