-- ==== Sys2Proof/Safety.lean ====
section
/-! DEFINITION. What counts as a lawful state of the part: the laws that the spec's prose states of
the whole part, in the terms claims use; and what a row does at a port, said once: a port open for
a command, a reply placed, nothing else changed. -/

namespace Sys2Proof.Machine

/-! ### A command at its port -/

/-- The port can come to the rise of a transaction that began with byte `b`: it is IDLE and not
waiting for a rise after a reset, or in FIRST_BYTE, or the transaction in progress began with
`b`. -/
def PortRec.openFor (r : PortRec) (b : Byte) : Bool :=
  match r.txn with
  | .idle => !r.awaitRise
  | .firstByte => true
  | .command => decide (r.buffer = [b])
  | .read => decide (b = 0x02)

/-- R155: command `c` from port `p` is taken: the port is open for it and its reply queue holds
fewer than 8 entries. -/
abbrev State.canTake (s : State) (p : Port) (c : Command) : Prop :=
  (s.port p).openFor (commandCode c) = true ∧ (s.port p).queue.length < 8

/-- The status items a transaction shows: those captured at its fall, which is now for a port that
stands in IDLE (log 3). -/
def PortRec.capturedBy (r : PortRec) (i : StatusItems) : StatusItems :=
  if r.txn = .idle then i else r.captured

/-- R150, R158: DROPPED after the rise of a transaction whose first byte came whole: a flag that was
set when the status byte was captured, and not set anew since, is cleared. -/
def PortRec.droppedAfter (r : PortRec) : Bool :=
  match r.txn with
  | .idle => false
  | .firstByte => r.dropped && !r.captured.dropped
  | .command => r.dropped && !r.droppedShown
  | .read => r.dropped && !r.droppedShown

/-- R150, R158: MISSED after such a rise. -/
def PortRec.missedAfter (r : PortRec) : Bool :=
  match r.txn with
  | .idle => false
  | .firstByte => r.missed && (!r.captured.missed || r.missedAnew)
  | .command => r.missed && !r.missedShown
  | .read => r.missed && !r.missedShown

/-- The port record after the rise that ends a transaction of `n` whole bytes, the first one among
them, in which the bytes `out` followed the status byte (R150, R158); its queue is as it was. `i`
are the status items of the moment. -/
def PortRec.afterRise (r : PortRec) (i : StatusItems) (out : List Byte) (n : Nat) : PortRec :=
  { queue := r.queue
    dropped := r.droppedAfter
    missed := r.missedAfter
    droppedShown := false, missedShown := false, txn := .idle
    captured := r.capturedBy i
    buffer := [], byteCount := 0, bitCount := 0, chosen := .none
    awaitRise := if r.txn = .idle then false else r.awaitRise
    missedAnew := if r.txn = .idle then false else r.missedAnew
    shifted := shiftOut (r.capturedBy i) out n }

/-- The port record after the notices `ns` have been offered to its queue at timestamp `t` (R154). -/
def PortRec.offerAll (r : PortRec) (ns : List Notice) (t : Stamp) : PortRec :=
  ns.foldl (fun r n => r.offer n t) r

/-- The port records of `s` after each port has been offered its notices. -/
def State.told (s : State) (ns : Port → List Notice) : Four PortRec :=
  Four.tabulate fun k => (s.port k).offerAll (ns k) s.time.stamp

/-- The port records of `s` after a command frame of `n` bytes from port `p` has been answered with
entry `e` and each port has then been offered its notices (R155, R158). -/
def State.answered (s : State) (p : Port) (n : Nat) (e : Entry) (ns : Port → List Notice) :
    Four PortRec :=
  Four.tabulate fun k =>
    (if k = p then
      { (s.port p).afterRise (s.statusItems p) [] n with queue := (s.port p).queue ++ [e] }
    else s.port k).offerAll (ns k) s.time.stamp

/-- Row `i`, a command `c` from port `p` with sequence byte `seq`, is carried out at `s`: its reply
is placed, then each port is offered the notices `ns` of the event, the transaction ends, and apart
from the port records the part is then `s'`. -/
def CompletesTelling (i : Instr) (s : State) (p : Port) (c : Command) (seq : Byte)
    (result : Result) (data : List Byte) (s' : State) (ns : Port → List Notice) : Prop :=
  exec i s = .next
    { s' with ports := s.answered p (bodyLength c + 4) (.reply c seq result data) ns }

/-- Row `i` is carried out at `s` and places no notice. -/
def Completes (i : Instr) (s : State) (p : Port) (c : Command) (seq : Byte) (result : Result)
    (data : List Byte) (s' : State) : Prop :=
  CompletesTelling i s p c seq result data s' fun _ => []

/-- Row `i` is answered with a refusal, which carries no data (R170), and changes nothing. -/
def Refuses (i : Instr) (s : State) (p : Port) (c : Command) (seq : Byte) (result : Result) : Prop :=
  Completes i s p c seq result [] s

/-- Row `i` is answered OK with `data` and changes nothing. -/
def Reports (i : Instr) (s : State) (p : Port) (c : Command) (seq : Byte) (data : List Byte) :
    Prop :=
  Completes i s p c seq .ok data s

/-- Event row `i` is taken at `s`: each port is offered the notices `ns`, and apart from the port
records the part is then `s'`. -/
def HappensTelling (i : Instr) (s s' : State) (ns : Port → List Notice) : Prop :=
  exec i s = .next { s' with ports := s.told ns }

/-- Notices for the port named, if one is. -/
def toPort (p : Option Port) (ns : List Notice) : Port → List Notice :=
  fun k => if p = some k then ns else []

/-- One copy of a notice for each of two recipients, one when they are the same port (R85, R99). -/
def toBoth (a b : Option Port) (n : Notice) : Port → List Notice :=
  fun k => if a = some k ∨ b = some k then [n] else []

/-- Unit byte `b` names the present unit `u` (R1, R167). -/
abbrev State.names (s : State) (b : Byte) (u : UnitNo) : Prop :=
  b.toNat = u.val ∧ s.present u = true

/-! ### What ends a lease, stops a leg or grants a unit -/

/-- The record of unit `u` when it has entered QUIET by abort or drain (R5, R20) and, with a quiet
time of 0, has left it in the same event (R4, R6). -/
def State.unitAfterLease (s : State) (u : UnitNo) : UnitRec :=
  if (s.unitEntry u).quiet ≠ 0 then
    { lease := .quiet, owner := none, releasing := none, period := none, remaining := 0
      leaseLowArmed := false, quiet := (s.unitEntry u).quiet, wait := (s.unit u).wait }
  else
    match (s.unit u).wait with
    | [] => .reset
    | w :: rest =>
      { lease := .held, owner := some w.port, releasing := none, period := some w.period
        remaining := w.period, leaseLowArmed := true, quiet := 0, wait := rest }

/-- The GRANTED notice of that event, for the oldest waiter, with a quiet time of 0 (R4, R6). -/
def State.grantTold (s : State) (u : UnitNo) (tripped : Bool) : Port → List Notice :=
  match (s.unit u).wait with
  | [] => fun _ => []
  | w :: _ =>
    if (s.unitEntry u).quiet = 0 then
      toPort (some w.port) [.granted u w.period tripped w.claimedAt]
    else fun _ => []

/-- The stage records after the legs of unit `u`, each first changed by `before`, have been forced
off; a leg that the same event grants anew, with drive permitted, rests (R5, R56, R58). -/
def State.legsAfterLease (s : State) (u : UnitNo) (tripped : Bool)
    (before : LegEntry → Stage → Stage) : Four Stage :=
  s.stages.mapIdx fun l st =>
    if s.unitOf l = u then
      let forced := forceStage (s.legEntry l) (before (s.legEntry l) st)
      if (s.unitAfterLease u).lease = .held ∧ tripped = false ∧ s.supply.state = .good ∧
          s.setup.phase = .run then
        restStage (s.legEntry l) true forced
      else forced
    else st

/-- The sequencers after a flush of every leg of unit `u` (R48). -/
def State.seqsFlushed (s : State) (u : UnitNo) : Four LegSeq :=
  s.seqs.mapIdx fun l q => if s.unitOf l = u then q.flushed else q

/-- `s` after an abort of unit `u`, apart from the ports (R5). -/
def State.aborted (s : State) (u : UnitNo) : State :=
  { s with
    units := s.units.set u (s.unitAfterLease u)
    stages := s.legsAfterLease u (s.tripped u) fun _ st => st
    seqs := s.seqsFlushed u }

/-- `s` after a grant of unit `u` to port `p` for `ms` milliseconds, apart from the ports, the wait
list then being `rest` (R6, R13, R56). -/
def State.granted (s : State) (u : UnitNo) (p : Port) (ms : Nat) (rest : List WaitEntry) : State :=
  { s with
    units := s.units.set u
      { lease := .held, owner := some p, releasing := none, period := some ms, remaining := ms
        leaseLowArmed := true, quiet := 0, wait := rest }
    stages := s.stages.mapIdx fun l st =>
      if s.unitOf l = u ∧ s.tripped u = false ∧ s.supply.state = .good ∧ s.setup.phase = .run then
        restStage (s.legEntry l) true st
      else st }

/-! ### Laws of the whole part -/

/-- R57: the two gates of a leg are never on together, and no guarded gate is on. -/
abbrev State.deadTimeLaw (s : State) : Prop :=
  ∀ l : Leg,
    ((s.stage l).gh && (s.stage l).gl) = false ∧
      ((s.stage l).gh = true → guards (s.stage l).guarded .gh = false) ∧
      ((s.stage l).gl = true → guards (s.stage l).guarded .gl = false)

/-- R54, R56: a leg is out of FORCED only while drive is permitted on it; a FORCED leg has both
gates off and an IDLE sequencer; and no gate is on that the leg's kind does not use. -/
abbrev State.driveLaw (s : State) : Prop :=
  ∀ l : Leg,
    ((s.stage l).state ≠ .forced → s.drivePermitted l = true) ∧
      ((s.stage l).state = .forced →
        (s.stage l).gh = false ∧ (s.stage l).gl = false ∧ (s.seq l).active = none) ∧
      ((s.legEntry l).kind = .highSide → (s.stage l).gl = false) ∧
      ((s.legEntry l).kind = .lowSide → (s.stage l).gh = false)

/-- R154: no reply queue holds more than 8 entries or more than 7 notices. -/
abbrev State.replyQueueLaw (s : State) : Prop :=
  ∀ p : Port, (s.port p).queue.length ≤ 8 ∧ noticeCount (s.port p).queue ≤ 7

/-- R30: no pending queue holds more than 16 segments, and a leg with no active segment has an empty
one. -/
abbrev State.pendingQueueLaw (s : State) : Prop :=
  ∀ l : Leg, (s.seq l).queue.length ≤ 16 ∧ ((s.seq l).active = none → (s.seq l).queue = [])

/-- R2, R6, R10: the fields of a unit record are those its lease state gives; a port appears at most
once in the wait list, and never in that of a unit it owns. -/
abbrev UnitRec.lawful (r : UnitRec) : Prop :=
  (r.lease = .free → r = UnitRec.reset) ∧
    (r.lease = .held →
      r.owner.isSome = true ∧ r.releasing = none ∧ r.period.isSome = true ∧ r.quiet = 0) ∧
    (r.lease = .releasing →
      r.owner = none ∧ r.releasing.isSome = true ∧ r.period.isSome = true ∧ r.quiet = 0 ∧
        r.leaseLowArmed = false) ∧
    (r.lease = .quiet →
      r.owner = none ∧ r.releasing = none ∧ r.period = none ∧ r.remaining = 0 ∧
        r.leaseLowArmed = false) ∧
    (r.wait.map WaitEntry.port).Nodup ∧ (∀ w ∈ r.wait, r.owner ≠ some w.port)

/-- R2, R6, R10 for the four unit records. -/
abbrev State.leaseLaw (s : State) : Prop := ∀ u : UnitNo, (s.unit u).lawful

/-- R96, R98, R111: the later causes of a NORMAL unit are empty; each leg of a TRIPPED unit is IDLE
with an empty pending queue; and in SETUP every unit is NORMAL. -/
abbrev State.tripLaw (s : State) : Prop :=
  (∀ u : UnitNo, s.tripped u = false → s.trip u = TripRec.reset) ∧
    (∀ l : Leg, s.tripped (s.unitOf l) = true → (s.seq l).idleEmpty = true) ∧
    (s.setup.phase = .setup → ∀ u : UnitNo, s.tripped u = false)

/-- R135, R146: in RUN no port holds the setup lock; without a holder the inactivity timer is 0;
and it never exceeds 2000 ms. -/
abbrev State.lockLaw (s : State) : Prop :=
  (s.setup.phase = .run → s.setup.holder = none) ∧
    (s.setup.holder = none → s.setup.inactivity = 0) ∧ s.setup.inactivity ≤ 2000

/-- R78, R93: an input is armed only in RUN and with an action; an unarmed one has count 0, is not
qualified and has its NOTE re-arm flag at yes. -/
abbrev State.senseLaw (s : State) : Prop :=
  ∀ n : SenseNo,
    ((s.sense n).armed = true →
        s.setup.phase = .run ∧ (s.senseEntry n).action ≠ .none) ∧
      ((s.sense n).armed = false →
        (s.sense n).count = 0 ∧ (s.sense n).qualified = false ∧ (s.sense n).rearm = true)

end Sys2Proof.Machine
end

