-- ==== Sys2Proof/WellFormed.lean ====
section
/-! DEFINITION. Which rows the part can meet. A command row carries bytes, and every byte is one a
frame can carry, so every command row is well formed; so is every event row but ERROR_ENTRY, whose
frame must be one that fails a check of R152 (R153). -/

namespace Sys2Proof

/-- The rows the part can meet. -/
def Instr.wellFormed : Instr → Bool
  | .errorEntry _ bytes bits => errorFrameOk bytes bits
  | .ident _ _ => true
  | .portReset _ _ => true
  | .readTime _ _ => true
  | .openSetup _ _ => true
  | .closeSetup _ _ => true
  | .setUnitMap _ _ _ _ _ _ => true
  | .setLeg _ _ _ _ _ _ _ _ _ _ => true
  | .setUnit _ _ _ _ _ _ => true
  | .setSense _ _ _ _ _ _ _ _ _ _ => true
  | .setSupervisor _ _ _ => true
  | .setSupply _ _ _ => true
  | .readConfig _ _ _ _ => true
  | .commit _ _ => true
  | .claim _ _ _ _ _ _ => true
  | .withdraw _ _ _ => true
  | .renew _ _ _ => true
  | .release _ _ _ _ => true
  | .revoke _ _ _ => true
  | .unitStatus _ _ _ => true
  | .enqueue _ _ _ _ => true
  | .flush _ _ _ _ => true
  | .legStatus _ _ _ => true
  | .senseStatus _ _ => true
  | .readTrip _ _ _ => true
  | .clearTrip _ _ _ => true
  | .readFrame _ _ => true
  | .powerOnReset _ => true
  | .rstNReset _ => true
  | .faultNLowSpell => true
  | .syncRisingEdge _ => true
  | .supplyLeavingGood _ => true
  | .vgHighSample _ => true
  | .vgLowSampleSettling _ => true
  | .settleTimerExpiry => true
  | .timestampStep => true
  | .millisecondTick => true
  | .leaseExpiry _ => true
  | .quietEnd _ => true
  | .claimTimeout _ _ => true
  | .setupLockInactivityExpiry => true
  | .atTimeOpening _ => true
  | .periodEnd _ => true
  | .decisionPoint _ => true
  | .layoutGateChange _ => true
  | .deadTimeGuardExpiry _ => true
  | .leadingDeadTimeEnd _ => true
  | .senseSample _ _ _ => true
  | .chipSelectFall _ => true
  | .firstByteWhole _ _ => true
  | .faultNRise => true

end Sys2Proof
end

