-- ==== Sys2Proof/Certificates/Slice0/Obligations.lean ====
section
/-! DEFINITION. The statements for the provers. Each is about the model in the spec's own terms; a row
that is carried out is stated by the whole next state (`Completes`, `CompletesTelling`,
`HappensTelling`), so that its frame is stated with its effect. -/

open Sys2Proof Sys2Proof.Machine

/-! ### The queue of rows, and reset -/

/-- The row at the front of the queue is taken with the queue's rest. -/
def Obligations.StepTakesTheFrontRow : Prop :=
  ∀ (s : State) (c : Instr) (rest : List Instr),
    s.pending = c :: rest → step s = exec c { s with pending := rest }

/-- On an empty queue the first event due is taken, and with none due one wu passes. The model's
choice (logs 1 and 6). R57, R59, R68, R79: in that wu, at every stage, a playing position goes up by
1, the dead-time timer goes up by 1 while a gate is guarded, a blanking count that is not expired
goes up by 1 and stops at 255, and the view for the samples of the wu holds the gates and counts as
they stood during it (log 11); nothing else changes. An event row is due exactly when its rule's
premise holds, a timestamp step after 20 wu and a millisecond tick when one has been drawn (log 5).
-/
def Obligations.StepOnAnEmptyQueueRunsTheClock : Prop :=
  (∀ s : State, s.pending = [] →
    (∀ i rest, s.dueRows = i :: rest → step s = exec i s) ∧
      (s.dueRows = [] → step s = .next
        { s with
          stages := s.stages.mapIdx fun _ st => wuStage st
          time := { s.time with wu := s.time.wu + 1 } })) ∧
  (∀ st : Stage,
    let t := wuStage st
    (∀ y pos, st.state = .playing y pos → t.state = .playing y (pos + 1)) ∧
      ((∀ y pos, st.state ≠ .playing y pos) → t.state = st.state) ∧
      (st.guarded ≠ .none → t.deadTimer = st.deadTimer + 1) ∧
      (st.guarded = .none → t.deadTimer = st.deadTimer) ∧
      (∀ n, st.ghBlank = some n → t.ghBlank = some (min 255 (n + 1))) ∧
      (st.ghBlank = none → t.ghBlank = none) ∧
      (∀ n, st.glBlank = some n → t.glBlank = some (min 255 (n + 1))) ∧
      (st.glBlank = none → t.glBlank = none) ∧
      t.seen = { gh := st.gh, gl := st.gl, ghBlank := st.ghBlank, glBlank := st.glBlank } ∧
      t.gh = st.gh ∧ t.gl = st.gl ∧ t.guarded = st.guarded ∧
      t.fromIdleLow = st.fromIdleLow) ∧
  (∀ (s : State) (i : Instr), i ∈ s.dueRows ↔
    (∃ l, i = .deadTimeGuardExpiry l ∧ (s.stage l).guarded ≠ .none ∧
      (s.legEntry l).dt ≤ (s.stage l).deadTimer) ∨
    (∃ l y, i = .leadingDeadTimeEnd l ∧ (s.stage l).state = .leading y ∧
      (s.legEntry l).dt ≤ (s.stage l).deadTimer) ∨
    (∃ l y pos a, i = .decisionPoint l ∧ (s.stage l).state = .playing y pos ∧
      (s.seq l).active = some a ∧ a.seg.count = 0 ∧ y.mode = .holdLow ∧
      (s.legEntry l).dt ≠ 0 ∧ y.judged = false ∧ pos + (s.legEntry l).dt = y.period) ∨
    (∃ l y pos, i = .layoutGateChange l ∧ (s.stage l).state = .playing y pos ∧
      pos < y.period ∧
      ((settleStage (s.legEntry l) (s.unitHeld l) (s.stage l)).gh ≠ (s.stage l).gh ∨
        (settleStage (s.legEntry l) (s.unitHeld l) (s.stage l)).gl ≠ (s.stage l).gl)) ∨
    (∃ l y pos a, i = .periodEnd l ∧ (s.stage l).state = .playing y pos ∧
      (s.seq l).active = some a ∧ y.period ≤ pos) ∨
    (i = .timestampStep ∧ 20 ≤ s.time.wu) ∨ (i = .millisecondTick ∧ s.time.ticksDue ≠ 0) ∨
    (i = .settleTimerExpiry ∧ s.supply.state = .settling ∧ s.supply.timer = 0) ∨
    (i = .setupLockInactivityExpiry ∧ s.setup.holder ≠ none ∧ s.setup.inactivity = 0) ∨
    (∃ u, i = .leaseExpiry u ∧
      ((s.unit u).lease = .held ∨ (s.unit u).lease = .releasing) ∧ (s.unit u).remaining = 0) ∨
    (∃ u p, i = .claimTimeout u p ∧
      ∃ w ∈ (s.unit u).wait, w.port = p ∧ w.remaining = some 0) ∨
    (∃ u, i = .quietEnd u ∧ (s.unit u).lease = .quiet ∧ (s.unit u).quiet = 0) ∨
    (∃ l a t, i = .atTimeOpening l ∧ (s.seq l).active = some a ∧ a.gate = some .waiting ∧
      a.seg.gate = some (.atTime t) ∧
      (s.time.stamp.toNat + 2 ^ 32 - t.toNat) % 2 ^ 32 < 2 ^ 31))

/-- Every row answers a next state, which leaves the queue of waiting rows as it was. -/
def Obligations.EveryRowAnswersANextStateAndKeepsTheQueue : Prop :=
  ∀ (i : Instr) (s : State), ∃ t, exec i s = .next t ∧ t.pending = s.pending

/-- R1, R32, R55, R75, R95, R112, R121 to R124, R131, R132, R148, R163: the values the spec states
after a power-on reset. -/
def Obligations.ResetHoldsTheStatedValues : Prop :=
  State.reset.pending = [] ∧ State.reset.cause = .powerOn ∧
    State.reset.setup.phase = .setup ∧ State.reset.setup.holder = none ∧
    State.reset.setup.inactivity = 0 ∧ State.reset.setup.board.unitMap = ⟨0, 1, 2, 3⟩ ∧
    State.reset.setup.board.supervisor = none ∧ State.reset.setup.board.settle = 10 ∧
    (∀ l : Leg, State.reset.legEntry l =
      { kind := .halfBridge, dt := 20, minOn := 10, maxOn := 65535, idle := .off, lowWater := 2,
        escalation := 0 }) ∧
    (∀ u : UnitNo, State.reset.unitEntry u =
      { allowed := ⟨true, true, true, true⟩, quiet := 1000, maxLease := 10000 }) ∧
    (∀ n : SenseNo, State.reset.senseEntry n =
      { action := .none, target := ⟨n.val % 4, Nat.mod_lt _ (by decide)⟩, threshold := 32,
        polarity := .above, window := .any, blank := 0, qualify := 4 }) ∧
    (∀ u : UnitNo, State.reset.present u = true ∧ (State.reset.unit u).lease = .free ∧
      (State.reset.unit u).owner = none ∧ (State.reset.unit u).releasing = none ∧
      (State.reset.unit u).period = none ∧ (State.reset.unit u).remaining = 0 ∧
      (State.reset.unit u).leaseLowArmed = false ∧ (State.reset.unit u).quiet = 0 ∧
      (State.reset.unit u).wait = []) ∧
    (∀ l : Leg, (State.reset.seq l).queue = [] ∧ (State.reset.seq l).active = none ∧
      (State.reset.seq l).lowArmed = false ∧ (State.reset.seq l).escalation = 0 ∧
      (State.reset.seq l).cutSeen = false ∧ (State.reset.seq l).lastCut = none) ∧
    (∀ l : Leg, (State.reset.stage l).state = .forced ∧ (State.reset.stage l).gh = false ∧
      (State.reset.stage l).gl = false ∧ (State.reset.stage l).deadTimer = 0 ∧
      (State.reset.stage l).guarded = .both ∧ (State.reset.stage l).ghBlank = none ∧
      (State.reset.stage l).glBlank = none) ∧
    (∀ n : SenseNo, (State.reset.sense n).armed = false ∧ (State.reset.sense n).count = 0 ∧
      (State.reset.sense n).qualified = false ∧ (State.reset.sense n).rearm = true) ∧
    (∀ u : UnitNo, (State.reset.trip u).info = none ∧ (State.reset.trip u).laterSenses = 0 ∧
      (State.reset.trip u).laterExternal = false) ∧
    State.reset.supply = { state := .down, timer := 0 } ∧
    State.reset.time.stamp = 0 ∧ State.reset.time.subMs = 0 ∧ State.reset.time.syncCount = 0 ∧
    State.reset.time.syncLast = none ∧
    (∀ p : Port, (State.reset.port p).queue = [] ∧ (State.reset.port p).dropped = false ∧
      (State.reset.port p).missed = false ∧ (State.reset.port p).droppedShown = false ∧
      (State.reset.port p).missedShown = false ∧ (State.reset.port p).txn = .idle ∧
      (State.reset.port p).buffer = [] ∧ (State.reset.port p).chosen = .none ∧
      State.reset.attn p = false)

/-- R148, R163: either reset leaves the part as after power-on, but for the last reset cause and for
the ports whose chip select is low at its end, which wait for the rise. The queue of waiting rows,
which stand outside the part, is kept. A reset is one row (log 14), and the values the spec does not
state are those of logs 7, 10 and 13. -/
def Obligations.AResetRestoresThePart : Prop :=
  ∀ (csLow : BitVec 4) (s : State),
    (∃ t, exec (.powerOnReset csLow) s = .next t ∧ t.cause = .powerOn ∧
      (∀ p : Port, t.port p = { PortRec.reset with awaitRise := csLow.getLsbD p.val }) ∧
      t = { State.reset with pending := s.pending, cause := t.cause, ports := t.ports }) ∧
    (∃ t, exec (.rstNReset csLow) s = .next t ∧ t.cause = .pin ∧
      (∀ p : Port, t.port p = { PortRec.reset with awaitRise := csLow.getLsbD p.val }) ∧
      t = { State.reset with pending := s.pending, cause := t.cause, ports := t.ports })

/-! ### Frames -/

/-- R165, R166, R168, R169: the frame of a command row passes every check and is read as that row.
-/
def Obligations.DecodeReadsBackEveryCommand : Prop :=
  ∀ (i : Instr) (p : Port) (c : Command) (seq : Byte) (body : List Byte),
    commandParts i = some (p, c, seq, body) → decodeFrame p (frameBytes c seq body) 0 = .ok i

/-- R152, R165 to R169: a frame that passes every check is the one encoding of the row it is. -/
def Obligations.ASoundFrameIsTheEncodingOfItsRow : Prop :=
  ∀ (p : Port) (bytes : List Byte) (bits : Nat) (i : Instr),
    decodeFrame p bytes bits = .ok i →
      bits = 0 ∧ ∃ c seq body, commandParts i = some (p, c, seq, body) ∧
        bytes = frameBytes c seq body

/-- R151, R152: the five checks of a frame of whole bytes `bytes` and `bits` further bits, each
giving its result when the earlier ones pass. -/
def Obligations.FrameChecksAreMadeInOrder : Prop :=
  ∀ (bytes : List Byte) (bits : Nat),
    let len := (bytes.getD 2 0x00).toNat
    let sound1 := 4 ≤ bytes.length ∧ bits = 0
    let sound2 := len ≤ 27 ∧ bytes.length = len + 4
    let sound3 := bytes.getLastD 0x00 = crc8 bytes.dropLast
    let check := frameCheck (bytes.take 31) (min 255 bytes.length) bits
    (¬ sound1 → check = some .frame) ∧
      (sound1 → ¬ sound2 → check = some .frame) ∧
      (sound1 → sound2 → ¬ sound3 → check = some .check) ∧
      (sound1 → sound2 → sound3 →
        (commandOfCode (bytes.headD 0x00) = none → check = some .unknown) ∧
          (∀ c, commandOfCode (bytes.headD 0x00) = some c →
            (bodyLength c ≠ len → check = some .length) ∧ (bodyLength c = len → check = none)))

/-! ### Ports and reply queues -/

/-- R154: a notice is admitted to a queue of fewer than 8 entries and fewer than 7 notices, at the
tail; otherwise it is lost and MISSED is set with its shown mark at no. -/
def Obligations.ANoticeIsAdmittedOrLost : Prop :=
  ∀ (r : PortRec) (n : Notice) (t : Stamp),
    (r.queue.length < 8 ∧ noticeCount r.queue < 7 →
      r.offer n t = { r with queue := r.queue ++ [.notice n t] }) ∧
    (¬ (r.queue.length < 8 ∧ noticeCount r.queue < 7) →
      r.offer n t = { r with missed := true, missedShown := false, missedAnew := true })

/-- R150: the fall of chip select captures the five status items, and both shown marks become no.
R150, R151, R156: the first byte 0x02 makes the transaction a READ frame, which chooses the head of
the queue or EMPTY; another byte begins a command frame. The flags shown set are marked; MISSED set
anew since the fall is not (the model's reading of R158, log 12). -/
def Obligations.ATransactionBeginsWithItsStatusByte : Prop :=
  (∀ (p : Port) (s : State), (s.port p).txn = .idle →
     ∃ t, exec (.chipSelectFall p) s = .next t ∧
       (t.port p).txn = .firstByte ∧ (t.port p).droppedShown = false ∧
       (t.port p).missedShown = false ∧
       (t.port p).captured =
         { count := (s.port p).queue.length, dropped := (s.port p).dropped
           missed := (s.port p).missed, supplyGood := decide (s.supply.state = .good)
           phaseRun := decide (s.setup.phase = .run) } ∧
       (t.port p).queue = (s.port p).queue ∧ (t.port p).dropped = (s.port p).dropped ∧
       (t.port p).missed = (s.port p).missed ∧ (t.port p).awaitRise = false ∧
       t = { s with ports := s.ports.set p (t.port p) }) ∧
  (∀ (p : Port) (b : Byte) (s : State), (s.port p).txn = .firstByte →
     ∃ t, exec (.firstByteWhole p b) s = .next t ∧
       (b = 0x02 → (t.port p).txn = .read ∧
         (t.port p).chosen =
           (match (s.port p).queue with
           | [] => .empty
           | e :: _ => .entry e)) ∧
       (b ≠ 0x02 → (t.port p).txn = .command ∧ (t.port p).buffer = [b] ∧
         (t.port p).byteCount = 1) ∧
       (t.port p).droppedShown = (s.port p).captured.dropped ∧
       (t.port p).missedShown = ((s.port p).captured.missed && !(s.port p).missedAnew) ∧
       (t.port p).queue = (s.port p).queue ∧ (t.port p).dropped = (s.port p).dropped ∧
       (t.port p).missed = (s.port p).missed ∧ (t.port p).captured = (s.port p).captured ∧
       t = { s with ports := s.ports.set p (t.port p) })

/-- R156 to R158: the rise that ends a READ frame in which `clocked` bytes followed the first. The
chosen entry leaves the head exactly when all its bytes were clocked; the flags shown set are
cleared; what was shifted out is the status byte, the entry, then 0x00. The record of what was
shifted out is the model's (log 19). -/
def Obligations.AReadFrameCollectsTheHead : Prop :=
  ∀ (p : Port) (clocked : Nat) (s : State), (s.port p).txn = .read →
    ∃ t, exec (.readFrame p clocked) s = .next t ∧
      (∀ e, (s.port p).chosen = .entry e →
        (t.port p).queue =
          if (entryBytes e).length ≤ clocked then (s.port p).queue.tail else (s.port p).queue) ∧
      ((s.port p).chosen = .empty → (t.port p).queue = (s.port p).queue) ∧
      (t.port p).dropped = ((s.port p).dropped && !(s.port p).droppedShown) ∧
      (t.port p).missed = ((s.port p).missed && !(s.port p).missedShown) ∧
      (t.port p).droppedShown = false ∧ (t.port p).missedShown = false ∧
      (t.port p).txn = .idle ∧ (t.port p).buffer = [] ∧ (t.port p).chosen = .none ∧
      (t.port p).shifted.length = clocked + 1 ∧
      (t.port p).shifted.take (clocked + 1) =
        (statusByte (s.port p).captured ::
          (chosenBytes (s.port p).chosen ++ List.replicate clocked 0x00)).take (clocked + 1) ∧
      t = { s with ports := s.ports.set p (t.port p) }

/-- The model's choice (log 3): a row that ends a transaction, on a port that stands in IDLE, is the
whole transaction, as its fall, its first byte and its rise would be. -/
def Obligations.ARiseRowOnAnIdlePortIsTheWholeTransaction : Prop :=
  ∀ (i : Instr) (s : State) (p : Port) (b : Byte),
    (s.port p).txn = .idle → (s.port p).awaitRise = false →
    ((∃ c seq body, commandParts i = some (p, c, seq, body) ∧ b = commandCode c) ∨
      (∃ n, i = .readFrame p n ∧ b = 0x02) ∨
      (∃ rest bits, i = .errorEntry p (b :: rest) bits ∧ i.wellFormed = true)) →
    ∀ t₁ t₂, exec (.chipSelectFall p) s = .next t₁ → exec (.firstByteWhole p b) t₁ = .next t₂ →
      exec i s = exec i t₂

/-- R151 to R153, R158: a frame of at least one whole byte that fails a check is answered by an
ERROR entry that carries the result, the count and the first two bytes; with 8 entries in the queue
it is dropped and DROPPED is set. Nothing else changes. R149, R151: a transaction that ends before
its first byte is whole clears no flag. With bits it is answered FRAME, 0 bytes received, if there
is room; with no rising edge of the clock at all it is neither answered nor dropped. What the port
shifted out, and a row that comes to a port in IDLE, are the model's choices (logs 3 and 19). -/
def Obligations.AFrameThatFailsIsAnsweredOrDropped : Prop :=
  (∀ (p : Port) (b : Byte) (rest : List Byte) (bits : Nat) (e : FrameError) (s : State),
     (s.port p).openFor b = true → b ≠ 0x02 → bits < 8 →
     frameCheck ((b :: rest).take 31) (min 255 (b :: rest).length) bits = some e →
       exec (.errorEntry p (b :: rest) bits) s = .next
         { s with
           ports := s.ports.set p
             (let r := (s.port p).afterRise (s.statusItems p) [] (b :: rest).length
             if (s.port p).queue.length < 8 then
               { r with queue := (s.port p).queue ++
                   [.error e (min 255 (b :: rest).length) b (rest.headD 0x00)] }
             else { r with dropped := true }) }) ∧
  (∀ (p : Port) (bits : Nat) (s : State),
     (s.port p).txn = .firstByte → (s.port p).droppedShown = false →
     (s.port p).missedShown = false → bits < 8 →
     ∃ t, exec (.errorEntry p [] bits) s = .next t ∧ (t.port p).txn = .idle ∧
       (t.port p).missed = (s.port p).missed ∧
       (bits = 0 → (t.port p).queue = (s.port p).queue ∧
         (t.port p).dropped = (s.port p).dropped) ∧
       (bits ≠ 0 → (s.port p).queue.length < 8 →
         (t.port p).queue = (s.port p).queue ++ [.error .frame 0 0x00 0x00] ∧
           (t.port p).dropped = (s.port p).dropped) ∧
       (bits ≠ 0 → 8 ≤ (s.port p).queue.length →
         (t.port p).queue = (s.port p).queue ∧ (t.port p).dropped = true) ∧
       t = { s with ports := s.ports.set p (t.port p) })

/-- R155: a sound command that meets a queue of 8 entries is dropped: no block sees it, no reply is
placed, and DROPPED is set with its shown mark at no. R155: every command but PORT_RESET that is
taken places exactly one reply, which echoes its code and sequence byte, at the tail of its port's
queue, before any notice of the event. A row that comes to a port in IDLE is the whole transaction
(log 3). -/
def Obligations.ACommandIsDroppedOrAnsweredOnce : Prop :=
  (∀ (i : Instr) (p : Port) (c : Command) (seq : Byte) (body : List Byte) (s : State),
     commandParts i = some (p, c, seq, body) → (s.port p).openFor (commandCode c) = true →
     8 ≤ (s.port p).queue.length →
       exec i s = .next
         { s with
           ports := s.ports.set p
             { (s.port p).afterRise (s.statusItems p) [] (bodyLength c + 4) with
               dropped := true } }) ∧
  (∀ (i : Instr) (p : Port) (c : Command) (seq : Byte) (body : List Byte) (s : State),
     commandParts i = some (p, c, seq, body) → c ≠ .portReset → s.canTake p c →
       ∃ t result data notices, exec i s = .next t ∧
         (t.port p).queue = (s.port p).queue ++ .reply c seq result data :: notices ∧
         (∀ e ∈ notices, e.isNotice = true) ∧ (t.port p).txn = .idle)

/-- R148: a port whose chip select has been low since a reset takes nothing at its rise, whatever
row stands for it, and waits no longer. -/
def Obligations.AfterAResetAPortWaitsForTheRise : Prop :=
  ∀ (i : Instr) (p : Port) (s : State),
    (s.port p).awaitRise = true → (s.port p).txn = .idle →
    ((∃ c seq body, commandParts i = some (p, c, seq, body)) ∨ (∃ n, i = .readFrame p n) ∨
      (∃ bytes bits, i = .errorEntry p bytes bits)) →
      exec i s = .next
        { s with ports := s.ports.set p { s.port p with awaitRise := false } }

/-- R25, R147, R161: PORT_RESET leaves the port's queue with its one reply and its flags clear; the
port then holds, releases and waits for no present unit, and has not the setup lock. The legs of a
unit it held or was releasing are flushed and forced off, unless a quiet time of 0 grants the unit
anew in the same event. Every other port is offered the GRANTED notices of such units, in unit
order, and nothing else; every other leg and unit is as it was, but for the port's wait entries. -/
def Obligations.APortResetGivesACleanStart : Prop :=
  ∀ (p : Port) (seq : Byte) (s : State), s.canTake p .portReset →
    let held := fun u => (s.unit u).ownedBy p = true ∨ (s.unit u).releasedBy p = true
    let left : State :=
      { s with
        units := s.units.mapIdx fun _ r =>
          { r with wait := r.wait.filter fun w => w.port ≠ p } }
    ∃ t, exec (.portReset p seq) s = .next t ∧
      (t.port p).queue = [.reply .portReset seq .ok []] ∧ (t.port p).dropped = false ∧
      (t.port p).missed = false ∧ (t.port p).txn = .idle ∧
      t.port p =
        { (s.port p).afterRise (s.statusItems p) [] (bodyLength .portReset + 4) with
          queue := [.reply .portReset seq .ok []], dropped := false, missed := false
          missedAnew := false } ∧
      (∀ k : Port, k ≠ p →
        t.port k =
          (s.port k).offerAll
            ((four.filter fun u =>
                s.present u && ((s.unit u).ownedBy p || (s.unit u).releasedBy p)).flatMap
              fun u => left.grantTold u (s.tripped u) k)
            s.time.stamp) ∧
      (∀ u : UnitNo, s.present u = true →
        (t.unit u).ownedBy p = false ∧ (t.unit u).releasedBy p = false ∧
          (∀ w ∈ (t.unit u).wait, w.port ≠ p) ∧
          (¬ held u → t.unit u = left.unit u) ∧
          (held u → t.unit u = left.unitAfterLease u)) ∧
      (∀ u : UnitNo, s.present u = false → t.unit u = s.unit u) ∧
      (∀ l : Leg,
        (held (s.unitOf l) → t.seq l = (s.seq l).flushed ∧
          t.stage l =
            (left.legsAfterLease (s.unitOf l) (s.tripped (s.unitOf l)) fun _ st => st).get l) ∧
        (¬ held (s.unitOf l) → t.seq l = s.seq l ∧ t.stage l = s.stage l)) ∧
      t = { s with
        ports := t.ports, units := t.units, seqs := t.seqs, stages := t.stages
        setup := if s.setup.holder = some p then
            { s.setup with holder := none, inactivity := 0 }
          else s.setup }

/-! ### Status commands -/

/-- R125: READ_TIME reports the timestamp and the SYNC edge counter, and changes nothing. R92, R163,
R170: IDENT and SENSE_STATUS report what their rules list, and change nothing. -/
def Obligations.StatusCommandsReportThePart : Prop :=
  (∀ (p : Port) (seq : Byte) (s : State), s.canTake p .readTime →
     Reports (.readTime p seq) s p .readTime seq
       ([s.time.stamp.extractLsb' 24 8, s.time.stamp.extractLsb' 16 8,
         s.time.stamp.extractLsb' 8 8, s.time.stamp.extractLsb' 0 8,
         s.time.syncCount.extractLsb' 8 8, s.time.syncCount.extractLsb' 0 8])) ∧
  (∀ (p : Port) (seq : Byte) (s : State),
     (s.canTake p .ident →
       Reports (.ident p seq) s p .ident seq
         [0xA7, 0x48, 0x01, (if s.cause = .pin then 0x01 else 0x00),
           (if s.setup.phase = .run then 0x01 else 0x00), supplyByte s.supply.state,
           (if s.faultN = .high then 0x01 else 0x00)]) ∧
     (s.canTake p .senseStatus →
       ∃ raw qualified armed : Byte,
         Reports (.senseStatus p seq) s p .senseStatus seq [raw, qualified, armed] ∧
           ∀ n : SenseNo, raw.getLsbD n.val = decide ((s.sense n).raw = .high) ∧
             qualified.getLsbD n.val = (s.sense n).qualified ∧
             armed.getLsbD n.val = (s.sense n).armed))

/-- R23, R110, R170: UNIT_STATUS and READ_TRIP answer NO_SUCH for a unit that is not present, and
otherwise report the unit record and the trip record; they change nothing. R51, R170: LEG_STATUS
answers NO_SUCH for a leg above 3, and otherwise reports the sequencer. -/
def Obligations.StatusCommandsReportUnitsTripsAndLegs : Prop :=
  (∀ (p : Port) (seq unit : Byte) (s : State),
     ((∀ u, ¬ s.names unit u) →
       (s.canTake p .unitStatus →
         Refuses (.unitStatus p seq unit) s p .unitStatus seq .noSuch) ∧
       (s.canTake p .readTrip → Refuses (.readTrip p seq unit) s p .readTrip seq .noSuch)) ∧
     (∀ u, s.names unit u →
       (s.canTake p .unitStatus →
         Reports (.unitStatus p seq unit) s p .unitStatus seq
           ([leaseByte (s.unit u).lease,
               numOrNone (if (s.unit u).lease = .held then (s.unit u).owner
                 else if (s.unit u).lease = .releasing then (s.unit u).releasing else none)] ++
             num2 (s.unit u).remaining ++ num2 (s.unit u).quiet ++
             [causeByte ((s.trip u).info.map TripInfo.cause), num1 (s.unit u).wait.length] ++
             (s.unit u).wait.flatMap fun w => numByte w.port :: num2 w.period)) ∧
       (s.canTake p .readTrip →
         ((s.trip u).info = none →
           Reports (.readTrip p seq unit) s p .readTrip seq
             [0x00, 0xFF, 0, 0, 0, 0, 0x00, 0x00, 0xFF, 0x00, yesNo (s.trip u).laterExternal,
               (s.trip u).laterSenses, levelByte s.faultN]) ∧
         (∀ info, (s.trip u).info = some info →
           Reports (.readTrip p seq unit) s p .readTrip seq
             ([causeByte (some info.cause), numOrNone info.leg] ++ stampBytes info.stamp ++
               optTag info.tag ++ [numOrNone info.owner, num1 info.discarded,
                 yesNo (s.trip u).laterExternal, (s.trip u).laterSenses, levelByte s.faultN]))))) ∧
  (∀ (p : Port) (seq leg : Byte) (s : State), s.canTake p .legStatus →
     (4 ≤ leg.toNat → Refuses (.legStatus p seq leg) s p .legStatus seq .noSuch) ∧
     (∀ l : Leg, leg.toNat = l.val →
       ((s.seq l).active = none →
         Reports (.legStatus p seq leg) s p .legStatus seq
           ([num1 (s.seq l).queue.length, 0x00, 0, 0, 0, 0, num1 (s.seq l).escalation] ++
             ((s.seq l).queue.take 13).map Segment.tag)) ∧
       (∀ a, (s.seq l).active = some a → a.gate ≠ none →
         Reports (.legStatus p seq leg) s p .legStatus seq
           ([num1 (64 + (s.seq l).queue.length), a.seg.tag, 0, 0] ++ num2 a.onTime ++
             [num1 (s.seq l).escalation] ++ ((s.seq l).queue.take 13).map Segment.tag)) ∧
       (∀ a, (s.seq l).active = some a → a.gate = none →
         Reports (.legStatus p seq leg) s p .legStatus seq
           ([num1 (128 + (s.seq l).queue.length), a.seg.tag] ++ num2 a.completed ++
             num2 a.onTime ++ [num1 (s.seq l).escalation] ++
             ((s.seq l).queue.take 13).map Segment.tag))))

/-- R144, R167, R170: READ_CONFIG reports a leg, a unit, a sense input or the whole part, in either
phase, and answers NO_SUCH for an index out of range and RANGE for an unknown kind. -/
def Obligations.ReadConfigReportsTheTable : Prop :=
  ∀ (p : Port) (seq index : Byte) (s : State), s.canTake p .readConfig →
    (∀ l : Leg, index.toNat = l.val →
      Reports (.readConfig p seq 0x00 index) s p .readConfig seq
        ([kindByte (s.legEntry l).kind] ++ num2 (s.legEntry l).dt ++ num2 (s.legEntry l).minOn ++
          num2 (s.legEntry l).maxOn ++ [idleByte (s.legEntry l).idle,
            num1 (s.legEntry l).lowWater, num1 (s.legEntry l).escalation])) ∧
    (∀ u : UnitNo, index.toNat = u.val →
      Reports (.readConfig p seq 0x01 index) s p .readConfig seq
        ([portSetByte (s.unitEntry u).allowed] ++ num2 (s.unitEntry u).quiet ++
          num2 (s.unitEntry u).maxLease ++ [yesNo (s.present u)])) ∧
    (∀ n : SenseNo, index.toNat = n.val →
      Reports (.readConfig p seq 0x02 index) s p .readConfig seq
        [actionByte (s.senseEntry n).action, numByte (s.senseEntry n).target,
          num1 (s.senseEntry n).threshold, polarityByte (s.senseEntry n).polarity,
          windowByte (s.senseEntry n).window, num1 (s.senseEntry n).blank,
          num1 (s.senseEntry n).qualify]) ∧
    (index = 0x00 →
      Reports (.readConfig p seq 0x03 index) s p .readConfig seq
        [numByte (s.unitOf 0), numByte (s.unitOf 1), numByte (s.unitOf 2), numByte (s.unitOf 3),
          numOrNone s.board.supervisor, num1 s.board.settle, phaseByte s.setup.phase,
          numOrNone s.setup.holder]) ∧
    (4 ≤ index.toNat →
      Refuses (.readConfig p seq 0x00 index) s p .readConfig seq .noSuch ∧
        Refuses (.readConfig p seq 0x01 index) s p .readConfig seq .noSuch) ∧
    (8 ≤ index.toNat → Refuses (.readConfig p seq 0x02 index) s p .readConfig seq .noSuch) ∧
    (index ≠ 0x00 → Refuses (.readConfig p seq 0x03 index) s p .readConfig seq .noSuch) ∧
    (∀ kind : Byte, 4 ≤ kind.toNat →
      Refuses (.readConfig p seq kind index) s p .readConfig seq .range)

/-! ### The setup session -/

/-- R134: OPEN_SETUP in its four cases. -/
def Obligations.OpenSetupGivesTheLockToOnePort : Prop :=
  ∀ (p : Port) (seq : Byte) (s : State), s.canTake p .openSetup →
    let i := Instr.openSetup p seq
    (s.setup.phase = .run → Refuses i s p .openSetup seq .notSetup) ∧
    (s.setup.phase = .setup → s.setup.holder = none ∨ s.setup.holder = some p →
      Completes i s p .openSetup seq .ok []
        { s with setup := { s.setup with holder := some p, inactivity := 2000 } }) ∧
    (∀ h, s.setup.phase = .setup → s.setup.holder = some h → h ≠ p →
      Completes i s p .openSetup seq .setupBusy [BitVec.ofNat 8 h.val] s)

/-- R136: CLOSE_SETUP in its three cases. -/
def Obligations.CloseSetupGivesTheLockUp : Prop :=
  ∀ (p : Port) (seq : Byte) (s : State), s.canTake p .closeSetup →
    let i := Instr.closeSetup p seq
    (s.setup.phase = .run → Refuses i s p .closeSetup seq .notSetup) ∧
    (s.setup.phase = .setup → s.setup.holder = some p →
      Completes i s p .closeSetup seq .ok []
        { s with setup := { s.setup with holder := none, inactivity := 0 } }) ∧
    (s.setup.phase = .setup → s.setup.holder ≠ some p →
      Refuses i s p .closeSetup seq .notHolder)

/-- R133, R138, R145: the six SET_ commands and COMMIT are refused with NOT_SETUP in RUN, and then
with NOT_HOLDER from a port that has not the lock; a refusal changes nothing. -/
def Obligations.OnlyTheHolderWritesTheTable : Prop :=
  ∀ (i : Instr) (p : Port) (c : Command) (seq : Byte) (body : List Byte) (s : State),
    commandParts i = some (p, c, seq, body) →
    c ∈ [.setUnitMap, .setLeg, .setUnit, .setSense, .setSupervisor, .setSupply, .commit] →
    s.canTake p c →
      (s.setup.phase = .run → Refuses i s p c seq .notSetup) ∧
        (s.setup.phase = .setup → s.setup.holder ≠ some p → Refuses i s p c seq .notHolder)

/-- R135, R138 to R140: SET_UNIT_MAP and SET_LEG of the lock holder. A unit or leg number beyond its
range, and a value beyond its range, is refused; else the whole group is written, the lock's timer
is reloaded and the answer is OK. A unit made present or absent has the reset values (log 15). -/
def Obligations.TheHolderWritesMapAndLegs : Prop :=
  ∀ (p : Port) (seq : Byte) (s : State), s.setup.phase = .setup → s.setup.holder = some p →
    (∀ u0 u1 u2 u3 : Byte, s.canTake p .setUnitMap →
      let i := Instr.setUnitMap p seq u0 u1 u2 u3
      (4 ≤ u0.toNat ∨ 4 ≤ u1.toNat ∨ 4 ≤ u2.toNat ∨ 4 ≤ u3.toNat →
        Refuses i s p .setUnitMap seq .range) ∧
      (∀ m : Four UnitNo, u0.toNat = m.e0.val → u1.toNat = m.e1.val → u2.toNat = m.e2.val →
        u3.toNat = m.e3.val →
        Completes i s p .setUnitMap seq .ok []
          { s with
            setup := { s.setup with
              board := { s.setup.board with unitMap := m }, inactivity := 2000 }
            units := s.units.mapIdx fun u r =>
              if s.present u ∧ unitPresent m u then r else UnitRec.reset
            trips := s.trips.mapIdx fun u t =>
              if s.present u ∧ unitPresent m u then t else TripRec.reset })) ∧
    (∀ (leg kind : Byte) (dt minOn maxOn : Half) (idle low esc : Byte), s.canTake p .setLeg →
      let i := Instr.setLeg p seq leg kind dt minOn maxOn idle low esc
      let fits := kind.toNat ≤ 2 ∧ dt.toNat ≤ 1023 ∧ 1 ≤ minOn.toNat ∧ 1 ≤ maxOn.toNat ∧
        idle.toNat ≤ 1 ∧ low.toNat ≤ 15 ∧ esc.toNat ≤ 15
      (4 ≤ leg.toNat → Refuses i s p .setLeg seq .noSuch) ∧
      (leg.toNat < 4 → ¬ fits → Refuses i s p .setLeg seq .range) ∧
      (∀ (l : Leg) (k : LegKind) (v : IdleLevel), leg.toNat = l.val → fits → kind = kindByte k →
        idle = idleByte v →
        Completes i s p .setLeg seq .ok []
          { s with setup := { s.setup with
              board := { s.setup.board with
                legs := s.setup.board.legs.set l
                  { kind := k, dt := dt.toNat, minOn := minOn.toNat, maxOn := maxOn.toNat
                    idle := v, lowWater := low.toNat, escalation := esc.toNat } }
              inactivity := 2000 } }))

/-- R135, R138, R141, R142: SET_UNIT and SET_SENSE of the lock holder, in the same way. R135, R138,
R143: SET_SUPERVISOR and SET_SUPPLY of the lock holder. -/
def Obligations.TheHolderWritesTheOtherGroups : Prop :=
  (∀ (p : Port) (seq : Byte) (s : State), s.setup.phase = .setup → s.setup.holder = some p →
     (∀ (unit allowed : Byte) (quiet maxLease : Half), s.canTake p .setUnit →
       let i := Instr.setUnit p seq unit allowed quiet maxLease
       let fits := allowed.toNat ≤ 15 ∧ quiet.toNat ≤ 50000 ∧ 10 ≤ maxLease.toNat ∧
         maxLease.toNat ≤ 60000
       (4 ≤ unit.toNat → Refuses i s p .setUnit seq .noSuch) ∧
       (unit.toNat < 4 → ¬ fits → Refuses i s p .setUnit seq .range) ∧
       (∀ u : UnitNo, unit.toNat = u.val → fits →
         Completes i s p .setUnit seq .ok []
           { s with setup := { s.setup with
               board := { s.setup.board with
                 units := s.setup.board.units.set u
                   { allowed := Four.tabulate fun k => allowed.getLsbD k.val
                     quiet := quiet.toNat, maxLease := maxLease.toNat } }
               inactivity := 2000 } })) ∧
     (∀ sense action target code polarity window blank qualify : Byte, s.canTake p .setSense →
       let i := Instr.setSense p seq sense action target code polarity window blank qualify
       let fits := action.toNat ≤ 3 ∧ target.toNat ≤ 3 ∧ code.toNat ≤ 63 ∧ polarity.toNat ≤ 1 ∧
         window.toNat ≤ 2 ∧ 1 ≤ qualify.toNat ∧ qualify.toNat ≤ 16
       (8 ≤ sense.toNat → Refuses i s p .setSense seq .noSuch) ∧
       (sense.toNat < 8 → ¬ fits → Refuses i s p .setSense seq .range) ∧
       (∀ (n : SenseNo) (a : Action) (l : Leg) (o : Polarity) (w : Window), sense.toNat = n.val →
         fits → action = actionByte a → target.toNat = l.val → polarity = polarityByte o →
         window = windowByte w →
         Completes i s p .setSense seq .ok []
           { s with setup := { s.setup with
               board := { s.setup.board with
                 senses := s.setup.board.senses.set n
                   { action := a, target := l, threshold := code.toNat, polarity := o
                     window := w, blank := blank.toNat, qualify := qualify.toNat } }
               inactivity := 2000 } }))) ∧
  (∀ (p : Port) (seq v : Byte) (s : State), s.setup.phase = .setup → s.setup.holder = some p →
     (s.canTake p .setSupervisor →
       (v = 0xFF →
         Completes (.setSupervisor p seq v) s p .setSupervisor seq .ok []
           { s with setup := { s.setup with
               board := { s.setup.board with supervisor := none }, inactivity := 2000 } }) ∧
       (∀ k : Port, v.toNat = k.val →
         Completes (.setSupervisor p seq v) s p .setSupervisor seq .ok []
           { s with setup := { s.setup with
               board := { s.setup.board with supervisor := some k }, inactivity := 2000 } }) ∧
       (4 ≤ v.toNat → v ≠ 0xFF →
         Refuses (.setSupervisor p seq v) s p .setSupervisor seq .range)) ∧
     (s.canTake p .setSupply →
       (v = 0x00 → Refuses (.setSupply p seq v) s p .setSupply seq .range) ∧
       (v ≠ 0x00 →
         Completes (.setSupply p seq v) s p .setSupply seq .ok []
           { s with setup := { s.setup with
               board := { s.setup.board with settle := v.toNat }, inactivity := 2000 } })))

/-- R145: the conditions COMMIT puts to a table, in the order in which it tries them, each with the
item kind, the index and the reason code its failure is answered with. -/
def tableChecks (b : Board) : List (List Byte × Bool) :=
  (four.flatMap fun l =>
    let e := b.legs.get l
    [([0x00, numByte l, 1], decide (e.minOn ≤ e.maxOn)),
      ([0x00, numByte l, 2], decide (e.kind = .halfBridge → 4 ≤ e.dt)),
      ([0x00, numByte l, 3], decide (e.idle = .low → e.kind ≠ .highSide))]) ++
  (four.map fun u =>
    ([0x01, numByte u, 4],
      decide (unitPresent b.unitMap u = true →
        ∃ p : Port, (b.units.get u).allowed.get p = true))) ++
  (eight.flatMap fun n =>
    let e := b.senses.get n
    let k := (b.legs.get e.target).kind
    [([0x02, BitVec.ofNat 8 n.val, 5],
        decide (e.action ≠ .none → e.window = .highOn → k ≠ .lowSide)),
      ([0x02, BitVec.ofNat 8 n.val, 6],
        decide (e.action ≠ .none → e.window = .lowOn → k ≠ .highSide)),
      ([0x02, BitVec.ofNat 8 n.val, 7], decide (e.action = .cycle → e.window = .highOn))]) ++
  [([0x03, 0x00, 8], decide (∃ u : UnitNo, unitPresent b.unitMap u = true))]

/-- R145: every condition holds of the table. -/
def tableSound (b : Board) : Prop := ∀ c ∈ tableChecks b, c.2 = true

/-- R145: a COMMIT of the lock holder whose table breaks a condition is answered INVALID_TABLE with
the item and the reason code of the first condition that fails, and no condition fails before it;
the timer is reloaded and nothing else changes. R78, R103, R146: a COMMIT of the lock holder with a
sound table begins RUN: the lock is dropped, every present unit is FREE and NORMAL, inputs with an
action are armed with an empty count. With FAULT_N high nothing else happens. With FAULT_N low every
present unit trips at once, and the supervisor port is sent their TRIPPED notices in unit order
after the reply. -/
def Obligations.CommitChecksTheTableAndBeginsRun : Prop :=
  (∀ (p : Port) (seq : Byte) (s : State), s.canTake p .commit → s.setup.phase = .setup →
     s.setup.holder = some p → ¬ tableSound s.board →
       ∃ before item after,
         tableChecks s.board = before ++ (item, false) :: after ∧
           (∀ c ∈ before, c.2 = true) ∧
           Completes (.commit p seq) s p .commit seq .invalidTable item
             { s with setup := { s.setup with inactivity := 2000 } }) ∧
  (∀ (p : Port) (seq : Byte) (s : State), s.canTake p .commit → s.setup.phase = .setup →
     s.setup.holder = some p → tableSound s.board →
       let run : State := { s with
         setup := { s.setup with phase := .run, holder := none, inactivity := 0 }
         units := s.units.mapIdx fun u r => if s.present u then UnitRec.reset else r
         trips := s.trips.mapIdx fun u t => if s.present u then TripRec.reset else t
         senses := s.senses.mapIdx fun n r =>
           { r with
             armed := decide ((s.senseEntry n).action ≠ .none), count := 0, qualified := false
             rearm := true } }
       (s.faultN = .high → Completes (.commit p seq) s p .commit seq .ok [] run) ∧
       (s.faultN = .low → (∀ l : Leg, (s.seq l).idleEmpty = true) →
         CompletesTelling (.commit p seq) s p .commit seq .ok []
           { run with
             trips := s.trips.mapIdx fun u t =>
               if s.present u then
                 { info := some
                     { cause := .external, leg := none, stamp := s.time.stamp, tag := none
                       owner := none, discarded := 0 }
                   laterSenses := 0, laterExternal := false }
               else t
             stages := s.stages.mapIdx fun l st => forceStage (s.legEntry l) st
             seqs := s.seqs.mapIdx fun _ q => q.flushed }
           (toPort s.board.supervisor
             ((four.filter fun u => s.present u).map fun u =>
               .tripped u .external none none 0))))

/-! ### Leases -/

/-- R12, R28: the checks of CLAIM in order; a refused CLAIM changes nothing. -/
def Obligations.ClaimIsCheckedInOrder : Prop :=
  ∀ (p : Port) (seq unit : Byte) (period : Half) (mode : Byte) (limit : Half) (s : State),
    s.canTake p .claim →
    let refuses := Refuses (.claim p seq unit period mode limit) s p .claim seq
    (s.setup.phase = .setup → refuses .notRunning) ∧
    (s.setup.phase = .run →
      ((∀ u, ¬ s.names unit u) → refuses .noSuch) ∧
      (∀ u, s.names unit u →
        ((s.unitEntry u).allowed.get p = false → refuses .denied) ∧
        ((s.unitEntry u).allowed.get p = true →
          let fits := 10 ≤ period.toNat ∧ period.toNat ≤ (s.unitEntry u).maxLease ∧
            mode.toNat ≤ 1 ∧ limit.toNat ≤ 60000
          (¬ fits → refuses .range) ∧
          (fits → (s.unit u).lease = .held → (s.unit u).owner = some p →
            refuses .alreadyOwner) ∧
          (fits → ¬ ((s.unit u).lease = .held ∧ (s.unit u).owner = some p) →
            (∃ w ∈ (s.unit u).wait, w.port = p) → refuses .duplicate))))

/-- R65: a RESTING leg shows GL: its unit is HELD, its idle level is LOW and its kind has GL. -/
def showsLow (e : LegEntry) (held : Bool) : Bool :=
  held && decide (e.idle = .low ∧ e.kind ≠ .highSide)

/-- R13, R14: a CLAIM that passes its checks is granted at once on a FREE unit, with the legs
resting if drive is permitted; on another unit a NOWAIT claim is answered BUSY and a WAIT claim
joins the tail of the wait list. R56, R65: a FORCED leg with both gates off that comes to rest is
RESTING, and GL turns on when the idle level asks for it and nothing guards it; any other leg is as
it was. -/
def Obligations.ClaimIsGrantedOrWaits : Prop :=
  (∀ (e : LegEntry) (held : Bool) (st : Stage),
    (st.state ≠ .forced → restStage e held st = st) ∧
    (st.state = .forced → st.gh = false → st.gl = false →
      restStage e held st =
        if showsLow e held = true ∧ guards st.guarded .gl = false then
          { st with state := .resting, gl := true, glBlank := some 0 }
        else { st with state := .resting })) ∧
  ∀ (p : Port) (seq unit : Byte) (period : Half) (mode : Byte) (limit : Half) (s : State)
    (u : UnitNo),
    s.canTake p .claim → s.setup.phase = .run → s.names unit u →
    (s.unitEntry u).allowed.get p = true → 10 ≤ period.toNat →
    period.toNat ≤ (s.unitEntry u).maxLease → mode.toNat ≤ 1 → limit.toNat ≤ 60000 →
    ¬ ((s.unit u).lease = .held ∧ (s.unit u).owner = some p) →
    (∀ w ∈ (s.unit u).wait, w.port ≠ p) →
      let i := Instr.claim p seq unit period mode limit
      ((s.unit u).lease = .free →
        Completes i s p .claim seq .granted
          ([numByte u] ++ num2 period.toNat ++ [yesNo (s.tripped u)])
          (s.granted u p period.toNat (s.unit u).wait)) ∧
      ((s.unit u).lease ≠ .free → mode = 0x00 → Refuses i s p .claim seq .busy) ∧
      ((s.unit u).lease ≠ .free → mode = 0x01 →
        Completes i s p .claim seq .queued [numByte u, num1 ((s.unit u).wait.length + 1)]
          { s with
            units := s.units.set u
              { s.unit u with
                wait := (s.unit u).wait ++
                  [{ port := p, period := period.toNat
                     limit := if limit.toNat = 0 then none else some limit.toNat
                     remaining := if limit.toNat = 0 then none else some limit.toNat
                     claimedAt := s.time.stamp }] } })

/-- R1, R15, R16: WITHDRAW takes the port's entry out of the wait list, and RENEW sets lease
remaining to the lease period and arms LEASE_LOW; each refuses as its rule says. -/
def Obligations.WithdrawAndRenew : Prop :=
  ∀ (p : Port) (seq unit : Byte) (s : State),
    ((∀ u, ¬ s.names unit u) →
      (s.canTake p .withdraw → Refuses (.withdraw p seq unit) s p .withdraw seq .noSuch) ∧
      (s.canTake p .renew → Refuses (.renew p seq unit) s p .renew seq .noSuch)) ∧
    (∀ u, s.names unit u →
      (s.canTake p .withdraw →
        ((∀ w ∈ (s.unit u).wait, w.port ≠ p) →
          Refuses (.withdraw p seq unit) s p .withdraw seq .notWaiting) ∧
        ((∃ w ∈ (s.unit u).wait, w.port = p) →
          Completes (.withdraw p seq unit) s p .withdraw seq .ok []
            { s with
              units := s.units.set u
                { s.unit u with wait := (s.unit u).wait.filter fun w => w.port ≠ p } })) ∧
      (s.canTake p .renew →
        (¬ ((s.unit u).lease = .held ∧ (s.unit u).owner = some p) →
          Refuses (.renew p seq unit) s p .renew seq .notOwner) ∧
        (∀ ms, (s.unit u).lease = .held → (s.unit u).owner = some p →
          (s.unit u).period = some ms →
          Completes (.renew p seq unit) s p .renew seq .ok ([numByte u] ++ num2 ms)
            { s with
              units := s.units.set u
                { s.unit u with remaining := ms, leaseLowArmed := true } })))

/-- R17, R20, R65: RELEASE FINISH from the owner. While a leg of the unit is busy the unit becomes
RELEASING, a resting leg turns its idle level off and the lease timer goes on. With every leg idle
and empty the unit drains in the same event: RELEASE_DONE follows the reply, which carries the lease
state at the end of the event. A RESTING leg with GL on turns GL off, which guards GH for DT; a
RESTING leg with both gates off, and a leg that is not RESTING, are as they were. -/
def Obligations.ReleaseFinishPlaysOutOrDrains : Prop :=
  (∀ (e : LegEntry) (st : Stage),
    (st.state = .resting → st.gh = false → st.gl = true →
      idleStage e false st =
        { st with
          gl := false, glBlank := none, deadTimer := 0
          guarded := if e.dt = 0 then .none else .gh }) ∧
    (st.state = .resting → st.gh = false → st.gl = false → idleStage e false st = st) ∧
    (st.state ≠ .resting → idleStage e false st = st)) ∧
  ∀ (p : Port) (seq unit : Byte) (s : State) (u : UnitNo), s.canTake p .release →
    s.names unit u → (s.unit u).lease = .held → (s.unit u).owner = some p →
      ((∃ l : Leg, s.unitOf l = u ∧ (s.seq l).idleEmpty = false) →
        Completes (.release p seq unit 0x00) s p .release seq .ok [numByte u, 0x02]
          { s with
            units := s.units.set u
              { s.unit u with
                lease := .releasing, owner := none, releasing := some p, leaseLowArmed := false }
            stages := s.stages.mapIdx fun l st =>
              if s.unitOf l = u then idleStage (s.legEntry l) false st else st }) ∧
      ((∀ l : Leg, s.unitOf l = u → (s.seq l).idleEmpty = true) →
        CompletesTelling (.release p seq unit 0x00) s p .release seq .ok
          [numByte u, leaseByte (s.unitAfterLease u).lease]
          { s with
            units := s.units.set u (s.unitAfterLease u)
            stages := s.legsAfterLease u (s.tripped u) fun e st => idleStage e false st }
          fun k => toPort (some p) [.releaseDone u] k ++ s.grantTold u (s.tripped u) k)

/-- R17, R19: the refusals of RELEASE, and IN_PROGRESS for FINISH from the releasing port. R5, R18,
R19: RELEASE ABORT from the owner or the releasing port aborts the unit; no LEASE_LOST and no
RELEASE_DONE is sent. -/
def Obligations.ReleaseIsCheckedAndAborts : Prop :=
  (∀ (p : Port) (seq unit option : Byte) (s : State), s.canTake p .release →
     let refuses := Refuses (.release p seq unit option) s p .release seq
     ((∀ u, ¬ s.names unit u) → refuses .noSuch) ∧
     (∀ u, s.names unit u →
       (1 < option.toNat → refuses .range) ∧
       (option.toNat ≤ 1 → ¬ ((s.unit u).lease = .held ∧ (s.unit u).owner = some p) →
         ¬ ((s.unit u).lease = .releasing ∧ (s.unit u).releasing = some p) →
         refuses .notOwner) ∧
       (option = 0x00 → (s.unit u).lease = .releasing → (s.unit u).releasing = some p →
         refuses .inProgress))) ∧
  (∀ (p : Port) (seq unit : Byte) (s : State) (u : UnitNo), s.canTake p .release →
     s.names unit u →
     ((s.unit u).lease = .held ∧ (s.unit u).owner = some p) ∨
       ((s.unit u).lease = .releasing ∧ (s.unit u).releasing = some p) →
       CompletesTelling (.release p seq unit 0x01) s p .release seq .ok
         [numByte u, leaseByte (s.unitAfterLease u).lease] (s.aborted u)
         (s.grantTold u (s.tripped u)))

/-- R21, R28: REVOKE is checked in order; from the supervisor port it aborts a HELD or RELEASING
unit, with LEASE_LOST(REVOKED) for the former holder after the reply. -/
def Obligations.RevokeTakesALeaseAway : Prop :=
  ∀ (p : Port) (seq unit : Byte) (s : State), s.canTake p .revoke →
    let i := Instr.revoke p seq unit
    (s.setup.phase = .setup → Refuses i s p .revoke seq .notRunning) ∧
    (s.setup.phase = .run →
      ((∀ u, ¬ s.names unit u) → Refuses i s p .revoke seq .noSuch) ∧
      (∀ u, s.names unit u →
        (s.board.supervisor ≠ some p → Refuses i s p .revoke seq .notSupervisor) ∧
        (s.board.supervisor = some p →
          ((s.unit u).lease = .free ∨ (s.unit u).lease = .quiet →
            Refuses i s p .revoke seq .nothingToRevoke) ∧
          ((s.unit u).lease = .held →
            CompletesTelling i s p .revoke seq .ok [] (s.aborted u)
              fun k => toPort (s.unit u).owner [.leaseLost u .revoked] k ++
                s.grantTold u (s.tripped u) k) ∧
          ((s.unit u).lease = .releasing →
            CompletesTelling i s p .revoke seq .ok [] (s.aborted u)
              fun k => toPort (s.unit u).releasing [.leaseLost u .revoked] k ++
                s.grantTold u (s.tripped u) k))))

/-- R5, R8, R9: lease expiry aborts a unit whose lease remaining is 0, with LEASE_LOST(EXPIRED) for
the former owner or releasing port. R6: the end of the quiet interval grants the unit to the oldest
waiter, with the GRANTED notice, or makes it FREE. R11: the end of a wait removes the entry,
wherever it stands, and sends CLAIM_TIMEOUT to its port. -/
def Obligations.TheTimersOfAUnitEnd : Prop :=
  (∀ (u : UnitNo) (s : State), (s.unit u).remaining = 0 →
     ((s.unit u).lease = .held →
       HappensTelling (.leaseExpiry u) s (s.aborted u) fun k =>
         toPort (s.unit u).owner [.leaseLost u .expired] k ++ s.grantTold u (s.tripped u) k) ∧
     ((s.unit u).lease = .releasing →
       HappensTelling (.leaseExpiry u) s (s.aborted u) fun k =>
         toPort (s.unit u).releasing [.leaseLost u .expired] k ++ s.grantTold u (s.tripped u) k)) ∧
  (∀ (u : UnitNo) (s : State), (s.unit u).lease = .quiet → (s.unit u).quiet = 0 →
     ((s.unit u).wait = [] →
       HappensTelling (.quietEnd u) s
         { s with units := s.units.set u { s.unit u with lease := .free } } fun _ => []) ∧
     (∀ w rest, (s.unit u).wait = w :: rest →
       HappensTelling (.quietEnd u) s (s.granted u w.port w.period rest)
         (toPort (some w.port) [.granted u w.period (s.tripped u) w.claimedAt]))) ∧
  (∀ (u : UnitNo) (s : State) (before after : List WaitEntry) (w : WaitEntry),
     (s.unit u).wait = before ++ w :: after → w.remaining = some 0 →
     (∀ x ∈ before ++ after, x.port ≠ w.port) →
       HappensTelling (.claimTimeout u w.port) s
         { s with units := s.units.set u { s.unit u with wait := before ++ after } }
         (toPort (some w.port) [.claimTimeout u]))

/-! ### Segments -/

/-- R41: the checks of ENQUEUE in order; a refused ENQUEUE changes nothing. -/
def Obligations.EnqueueIsCheckedInOrder : Prop :=
  ∀ (p : Port) (seq leg : Byte) (raw : RawSegment) (s : State), s.canTake p .enqueue →
    let refuses := Refuses (.enqueue p seq leg raw) s p .enqueue seq
    (s.setup.phase = .setup → refuses .notRunning) ∧
    (s.setup.phase = .run →
      (4 ≤ leg.toNat → refuses .noSuch) ∧
      (∀ l : Leg, leg.toNat = l.val →
        let owns := (s.unit (s.unitOf l)).lease = .held ∧ (s.unit (s.unitOf l)).owner = some p
        let normal := s.tripped (s.unitOf l) = false
        let good := s.supply.state = .good
        let room := (s.seq l).queue.length < 16
        (¬ owns → refuses .notOwner) ∧
        (owns → ¬ normal → refuses .tripped) ∧
        (owns → normal → ¬ good → refuses .supplyLow) ∧
        (owns → normal → good → ¬ room → refuses .full) ∧
        (owns → normal → good → room → acceptSegment (s.legEntry l) raw = none →
          refuses .range)))

/-- R169: the mode byte of each mode. -/
def modeCode : Mode → Nat
  | .complementary => 0
  | .highOnly => 1
  | .lowOnly => 2
  | .holdLow => 3
  | .off => 4

/-- R169: segment `g` is what the 15 bytes of the segment record `raw` say. -/
def saysSegment (raw : RawSegment) (g : Segment) : Prop :=
  raw.flags.toNat < 16 ∧ raw.mode.toNat = modeCode g.mode ∧
    g.period = raw.period.toNat ∧ g.onTime = raw.onTime.toNat ∧ g.count = raw.count.toNat ∧
    g.tag = raw.tag ∧ g.notify = raw.flags.getLsbD 0 ∧
    (raw.flags.getLsbD 1 = false → g.step = none) ∧
    (raw.flags.getLsbD 1 = true →
      (raw.stepSign = 0x00 ∧ g.step = some (raw.stepMagnitude.toNat : Int)) ∨
        (raw.stepSign = 0x01 ∧ g.step = some (-(raw.stepMagnitude.toNat : Int)))) ∧
    ((raw.flags.toNat / 4 = 0 ∧ g.gate = none) ∨
      (raw.flags.toNat / 4 = 1 ∧ g.gate = some (.atTime raw.gateValue)) ∨
      (raw.flags.toNat / 4 = 2 ∧ g.gate = some (.onSync raw.gateValue.toNat)))

/-- R42: segment `g` passes the range checks of a leg with entry `e`. -/
def fitsLeg (e : LegEntry) (g : Segment) : Prop :=
  (e.kind = .highSide → g.mode = .highOnly ∨ g.mode = .off) ∧
    (e.kind = .lowSide → g.mode = .lowOnly ∨ g.mode = .holdLow ∨ g.mode = .off) ∧
    40 ≤ g.period ∧ g.period ≤ 65535 ∧
    (g.mode = .complementary → g.onTime + 2 * e.dt ≤ g.period) ∧
    (g.mode = .highOnly ∨ g.mode = .lowOnly → g.onTime ≤ g.period) ∧
    (g.mode = .complementary ∨ g.mode = .highOnly ∨ g.mode = .lowOnly →
      (g.onTime = 0 ∨ e.minOn ≤ g.onTime ∧ g.onTime ≤ e.maxOn) ∧
        (g.step ≠ none → e.minOn ≤ g.onTime)) ∧
    (g.mode = .holdLow → e.dt < g.period) ∧
    (∀ k, g.gate = some (.onSync k) → 1 ≤ k ∧ k ≤ 15)

/-- R42, R169: a segment record is accepted, as the segment with the fields it says, exactly when
its coding can be read and its fields lie within the ranges of its leg. A reserved flag bit, gate
code 11, a mode byte above 4 and a present step's sign byte above 1 cannot be read. -/
def Obligations.AnAcceptedSegmentLiesInRange : Prop :=
  ∀ (e : LegEntry) (raw : RawSegment),
    (∀ g, acceptSegment e raw = some g ↔ saysSegment raw g ∧ fitsLeg e g) ∧
    (∀ g, readSegment raw = some g ↔ saysSegment raw g) ∧
    (16 ≤ raw.flags.toNat ∨ raw.flags.toNat / 4 % 4 = 3 ∨ 5 ≤ raw.mode.toNat ∨
        (raw.flags.getLsbD 1 = true ∧ 2 ≤ raw.stepSign.toNat) →
      acceptSegment e raw = none)

/-- R36, R64: the on-time of period 0 is the record's; a stepped on-time of a mode that uses it
stays within MIN_ON and the ceiling, and is the exact sum when that lies between them. -/
def Obligations.ASteppedOnTimeIsClamped : Prop :=
  ∀ (e : LegEntry) (raw : RawSegment) (g : Segment) (k : Nat),
    acceptSegment e raw = some g →
      onTimeAt e g 0 = g.onTime ∧ (g.step = none → onTimeAt e g k = g.onTime) ∧
        (g.mode = .holdLow ∨ g.mode = .off → onTimeAt e g k = g.onTime) ∧
        (∀ d, g.step = some d →
          g.mode = .complementary ∨ g.mode = .highOnly ∨ g.mode = .lowOnly →
          let ceiling := min e.maxOn
            (if g.mode = .complementary then g.period - 2 * e.dt else g.period)
          e.minOn ≤ onTimeAt e g k ∧ onTimeAt e g k ≤ ceiling ∧
            ((g.onTime : Int) + k * d < e.minOn → onTimeAt e g k = e.minOn) ∧
            ((ceiling : Int) < g.onTime + k * d → onTimeAt e g k = ceiling) ∧
            ((e.minOn : Int) ≤ g.onTime + k * d → (g.onTime : Int) + k * d ≤ ceiling →
              (onTimeAt e g k : Int) = g.onTime + k * d))

/-- R34, R40, R43: an ENQUEUE that passes its checks appends the segment at the tail, arming the
low-water flag when it leaves the count above the mark; on an IDLE leg the segment is taken in the
same event, the count is 0 and the flag is not armed (R40, log 20). -/
def Obligations.EnqueueAppendsOrStarts : Prop :=
  ∀ (p : Port) (seq leg : Byte) (raw : RawSegment) (s : State) (l : Leg) (g : Segment),
    s.canTake p .enqueue → s.setup.phase = .run → leg.toNat = l.val →
    (s.unit (s.unitOf l)).lease = .held → (s.unit (s.unitOf l)).owner = some p →
    s.tripped (s.unitOf l) = false → s.supply.state = .good → (s.seq l).queue.length < 16 →
    acceptSegment (s.legEntry l) raw = some g →
      (∀ a, (s.seq l).active = some a →
        Completes (.enqueue p seq leg raw) s p .enqueue seq .ok
          [numByte l, num1 ((s.seq l).queue.length + 1)]
          { s with
            seqs := s.seqs.set l
              { s.seq l with
                queue := (s.seq l).queue ++ [g]
                lowArmed := (s.seq l).lowArmed ||
                  decide ((s.legEntry l).lowWater < (s.seq l).queue.length + 1) } }) ∧
      ((s.seq l).active = none → (s.seq l).queue = [] →
        Completes (.enqueue p seq leg raw) s p .enqueue seq .ok [numByte l, 0x00]
          { s with
            seqs := s.seqs.set l
              { s.seq l with active := some (activeOf (s.legEntry l) s.time.stamp g) }
            stages := s.stages.set l
              (takeStage (s.legEntry l) true (activeOf (s.legEntry l) s.time.stamp g)
                (s.stage l)) })

/-- R46, R47, R72: FLUSH is checked in order. PENDING empties the queue and keeps the active
segment; ALL also cuts it, and both gates of a cut leg turn off at once before the idle level is
asked for. The reply carries the leg, the number discarded and the tag of the cut segment. -/
def Obligations.FlushEmptiesALeg : Prop :=
  ∀ (p : Port) (seq leg option : Byte) (s : State), s.canTake p .flush →
    let i := Instr.flush p seq leg option
    (s.setup.phase = .setup → Refuses i s p .flush seq .notRunning) ∧
    (s.setup.phase = .run →
      (4 ≤ leg.toNat → Refuses i s p .flush seq .noSuch) ∧
      (∀ l : Leg, leg.toNat = l.val →
        let owns := (s.unit (s.unitOf l)).lease = .held ∧ (s.unit (s.unitOf l)).owner = some p
        (¬ owns → Refuses i s p .flush seq .notOwner) ∧
        (owns → 1 < option.toNat → Refuses i s p .flush seq .range) ∧
        (owns → option = 0x00 →
          Completes i s p .flush seq .ok [numByte l, num1 (s.seq l).queue.length, 0x00, 0x00]
            { s with
              seqs := s.seqs.set l
                { s.seq l with queue := [], lowArmed := false, escalation := 0
                               cutSeen := false } }) ∧
        (owns → option = 0x01 → (s.seq l).active = none →
          Completes i s p .flush seq .ok [numByte l, num1 (s.seq l).queue.length, 0x00, 0x00]
            { s with
              seqs := s.seqs.set l
                { s.seq l with queue := [], lowArmed := false, escalation := 0
                               cutSeen := false } }) ∧
        (∀ a, owns → option = 0x01 → (s.seq l).active = some a →
          Completes i s p .flush seq .ok
            [numByte l, num1 ((s.seq l).queue.length + 1), 0x01, a.seg.tag]
            { s with
              seqs := s.seqs.set l
                { s.seq l with queue := [], active := none, lowArmed := false, escalation := 0
                               cutSeen := false }
              stages := s.stages.set l
                (settleStage (s.legEntry l) true
                  (bothOff (s.legEntry l).dt .resting (s.stage l))) })))

/-- R37, R38: the period that is ending at leg `l` is the last of active segment `a`, played with
layout `y`. -/
def lastPeriod (s : State) (l : Leg) (a : Active) (y : Layout) : Prop :=
  (a.seg.count ≠ 0 ∧ min 65535 (a.completed + 1) = a.seg.count) ∨
    (a.seg.count = 0 ∧ a.seg.mode = .holdLow ∧ (s.legEntry l).dt ≠ 0 ∧ y.final = true) ∨
    (a.seg.count = 0 ∧ ¬ (a.seg.mode = .holdLow ∧ (s.legEntry l).dt ≠ 0) ∧
      ((s.seq l).queue ≠ [] ∨ (s.unit (s.unitOf l)).lease = .releasing))

/-- The active segment with one more period completed, which stops at 65535 (R36, R38). -/
def onePeriodMore (a : Active) : Active := { a with completed := min 65535 (a.completed + 1) }

/-- R71: the escalation counter after a period end: kept when the period contained a cut, else 0. -/
def escalationAfter (q : LegSeq) : Nat := if q.cutSeen then q.escalation else 0

/-- R36, R38, R59, R64, R71: a period end that is not the segment's last counts the period and
begins the next one at position 0 with its own on-time. -/
def Obligations.APeriodEndBeginsTheNextPeriod : Prop :=
  ∀ (l : Leg) (s : State) (a : Active) (y : Layout) (pos : Nat),
    (s.seq l).active = some a → (s.stage l).state = .playing y pos → y.period ≤ pos →
    ¬ lastPeriod s l a y →
      let k := min 65535 (a.completed + 1)
      let next : Active :=
        { a with completed := k, onTime := onTimeAt (s.legEntry l) a.seg k }
      exec (.periodEnd l) s = .next
        { s with
          seqs := s.seqs.set l
            { s.seq l with
              active := some next, cutSeen := false, escalation := escalationAfter (s.seq l) }
          stages := s.stages.set l
            (beginPeriod (s.legEntry l) (s.unitHeld l) (layoutOf next) (s.stage l)) }

/-- R34, R39, R40: at the end of a segment with another pending, SEGMENT_DONE goes to the holder if
notified, the head is taken with no gap, and QUEUE_LOW follows when the take lowers the count to the
mark while armed. R20, R39, R45, R67: at the end of a segment with nothing pending the leg goes IDLE
and rests, with LEG_IDLE after SEGMENT_DONE; when this was the last busy leg of a RELEASING unit the
unit drains in the same event, and RELEASE_DONE follows. R62, R65, R67: the leg then is RESTING; a
gate still on at the end of the last period turns off there, as an ordinary turn-off that guards the
other gate for DT, and with the idle level LOW shown GL turns on at once unless it is guarded. -/
def Obligations.ASegmentEndTakesTheNextOrGoesIdle : Prop :=
  (∀ (e : LegEntry) (held : Bool) (st : Stage), (st.gh && st.gl) = false →
     let t := endStage e held st
     t.state = .resting ∧ t.gh = false ∧ t.ghBlank = (if st.gh then none else st.ghBlank) ∧
       (st.gl = true →
         t.deadTimer = 0 ∧ t.guarded = (if e.dt = 0 then .none else .gh) ∧
           t.gl = showsLow e held ∧
           t.glBlank = (if showsLow e held then some 0 else none)) ∧
       (st.gh = true →
         t.deadTimer = 0 ∧ t.guarded = (if e.dt = 0 then .none else .gl) ∧
           t.gl = (showsLow e held && decide (e.dt = 0)) ∧
           t.glBlank = (if t.gl then some 0 else st.glBlank)) ∧
       (st.gh = false → st.gl = false →
         t.deadTimer = st.deadTimer ∧ t.guarded = st.guarded ∧
           t.gl = (showsLow e held && !guards st.guarded .gl) ∧
           t.glBlank = (if t.gl then some 0 else st.glBlank))) ∧
  (∀ (l : Leg) (s : State) (a : Active) (y : Layout) (pos : Nat) (g : Segment)
     (rest : List Segment),
     (s.seq l).active = some a → (s.stage l).state = .playing y pos → y.period ≤ pos →
     lastPeriod s l a y → (s.seq l).queue = g :: rest →
       let holder := (s.unit (s.unitOf l)).holder
       let next := activeOf (s.legEntry l) s.time.stamp g
       let low := (s.seq l).lowArmed = true ∧ rest.length = (s.legEntry l).lowWater
       HappensTelling (.periodEnd l) s
         { s with
           seqs := s.seqs.set l
             { queue := rest, active := some next
               lowArmed := if low then false else (s.seq l).lowArmed
               escalation := escalationAfter (s.seq l), cutSeen := false
               lastCut := (s.seq l).lastCut }
           stages := s.stages.set l
             (takeStage (s.legEntry l) (s.unitHeld l) next (s.stage l)) }
         (toPort holder
           ((if a.seg.notify then
               [.segmentDone l a.seg.tag a.late (onePeriodMore a).completed] else []) ++
             (if low then [.queueLow l rest.length] else [])))) ∧
  (∀ (l : Leg) (s : State) (a : Active) (y : Layout) (pos : Nat),
     (s.seq l).active = some a → (s.stage l).state = .playing y pos → y.period ≤ pos →
     lastPeriod s l a y → (s.seq l).queue = [] →
       let u := s.unitOf l
       let holder := (s.unit u).holder
       let seqs := s.seqs.set l
         { s.seq l with active := none, escalation := 0, cutSeen := false }
       let done : List Notice :=
         (if a.seg.notify then
           [.segmentDone l a.seg.tag a.late (onePeriodMore a).completed] else []) ++
         [.legIdle l a.seg.tag]
       let drains := (s.unit u).lease = .releasing ∧
         ∀ j : Leg, j ≠ l → s.unitOf j = u → (s.seq j).idleEmpty = true
       (¬ drains →
         HappensTelling (.periodEnd l) s
           { s with
             seqs := seqs
             stages := s.stages.set l (endStage (s.legEntry l) (s.unitHeld l) (s.stage l)) }
           (toPort holder done)) ∧
       (drains →
         HappensTelling (.periodEnd l) s
           { s with
             seqs := seqs
             units := s.units.set u (s.unitAfterLease u)
             stages :=
               { s with
                 stages := s.stages.set l
                   (endStage (s.legEntry l) false (s.stage l)) }.legsAfterLease u
                 (s.tripped u) fun _ st => st }
           fun k => toPort holder (done ++ [.releaseDone u]) k ++ s.grantTold u (s.tripped u) k))

/-! ### Gates -/

/-- R34, R126, R128: the active segment a pending one becomes when it is taken: 0 periods completed,
the on-time of period 0, and the start-gate state and late flag of its gate. An AT_TIME gate is open
while (now − t) modulo 2³² is less than 2³¹. R34, R59, R66, R67: the stage at a take. A segment with
a closed start gate leaves both gates off in WAITING; a gate that was on turns off at the take as an
ordinary turn-off, which restarts the timer and guards the other gate for DT, and with both gates
off the timer and the guard stand. The mark that GL turned off from idle LOW (log 18) is yes exactly
when it did. From idle LOW a running one leads with both gates off, GL having turned off now and GH
guarded, unless DT is 0. In every other case its period 0 begins at position 0. That a leading dead
time of DT 0 has no length is the model's reading (log 17). -/
def Obligations.ATakeSetsSequencerAndStage : Prop :=
  (∀ (e : LegEntry) (now : Stamp) (g : Segment),
     (activeOf e now g).seg = g ∧ (activeOf e now g).completed = 0 ∧
       (activeOf e now g).onTime = onTimeAt e g 0 ∧
       (g.gate = none → (activeOf e now g).gate = none ∧ (activeOf e now g).late = false) ∧
       (∀ t, g.gate = some (.atTime t) →
         ((now.toNat + 2 ^ 32 - t.toNat) % 2 ^ 32 < 2 ^ 31 →
           (activeOf e now g).gate = none ∧ (activeOf e now g).late = true) ∧
         (2 ^ 31 ≤ (now.toNat + 2 ^ 32 - t.toNat) % 2 ^ 32 →
           (activeOf e now g).gate = some .waiting ∧ (activeOf e now g).late = false)) ∧
       (∀ k, g.gate = some (.onSync k) →
         (activeOf e now g).gate = some (.edges k) ∧ (activeOf e now g).late = false)) ∧
  (∀ (e : LegEntry) (held : Bool) (a : Active) (st : Stage),
     (a.gate ≠ none →
       (takeStage e held a st).state = .waiting ∧ (takeStage e held a st).gh = false ∧
         (takeStage e held a st).gl = false ∧
         ((takeStage e held a st).fromIdleLow = true ↔ st.state = .resting ∧ st.gl = true) ∧
         (st.gh = false → st.gl = true →
           takeStage e held a st =
             { st with
               state := .waiting, gl := false, glBlank := none, deadTimer := 0
               guarded := if e.dt = 0 then .none else .gh
               fromIdleLow := decide (st.state = .resting) }) ∧
         (st.gh = true → st.gl = false →
           takeStage e held a st =
             { st with
               state := .waiting, gh := false, ghBlank := none, deadTimer := 0
               guarded := if e.dt = 0 then .none else .gl
               fromIdleLow := false }) ∧
         (st.gh = false → st.gl = false →
           takeStage e held a st = { st with state := .waiting, fromIdleLow := false })) ∧
     (a.gate = none → st.state = .resting → st.gl = true → e.dt ≠ 0 →
       (takeStage e held a st).state = .leading (layoutOf a) ∧
         (takeStage e held a st).gh = false ∧ (takeStage e held a st).gl = false ∧
         (takeStage e held a st).deadTimer = 0 ∧ (takeStage e held a st).guarded = .gh ∧
         (st.gh = false →
           takeStage e held a st =
             { st with
               state := .leading (layoutOf a), gl := false, glBlank := none, deadTimer := 0
               guarded := .gh, fromIdleLow := true })) ∧
     (a.gate = none → st.state = .resting → st.gl = true → e.dt = 0 →
       takeStage e held a st =
         settleStage e held
           { st with
             state := .playing (layoutOf a) 0, gl := false, glBlank := none, deadTimer := 0
             guarded := .none, fromIdleLow := false }) ∧
     (a.gate = none → ¬ (st.state = .resting ∧ st.gl = true ∧ e.dt ≠ 0) →
       (takeStage e held a st).state = .playing (layoutOf a) 0) ∧
     (a.gate = none → ¬ (st.state = .resting ∧ st.gl = true) →
       takeStage e held a st =
         settleStage e held
           { st with state := .playing (layoutOf a) 0, fromIdleLow := false }))

/-- R48, R58: a forcing turns both gates off at once and guards both when one was on, with a DT
other than 0; a leg with both gates off keeps its timer and guard. The layout goes, the state is
FORCED. R57, R59 to R63, R68: bringing the gates to what is asked turns on a gate asked for that
nothing guards, the other gate being off, with its blanking count at 0, and no other gate; with a DT
of 0 it turns on although the other gate turns off now; it turns off every gate not asked for; a
gate that turns off guards the other one for DT and restarts the timer; a gate that stays as it is
keeps its count, and with no turn-off the timer and the guard stand. Never are both gates asked for.
That the gates are asked for by level is the model's choice (log 16). -/
def Obligations.GatesTurnOffAndOnUnderTheGuard : Prop :=
  (∀ (e : LegEntry) (st : Stage),
     (forceStage e st).state = .forced ∧ (forceStage e st).gh = false ∧
       (forceStage e st).gl = false ∧
       (st.gh = true ∨ st.gl = true →
         (forceStage e st).deadTimer = 0 ∧ (forceStage e st).ghBlank = none ∧
           (forceStage e st).glBlank = none ∧
           (forceStage e st).guarded = (if e.dt = 0 then .none else .both)) ∧
       (st.gh = false → st.gl = false →
         (forceStage e st).deadTimer = st.deadTimer ∧ (forceStage e st).guarded = st.guarded)) ∧
  (∀ (e : LegEntry) (held : Bool) (st : Stage),
     (st.gh && st.gl) = false →
     let t := settleStage e held st
     let w := wantedGates e held st
     (t.gh && t.gl) = false ∧ (w.1 && w.2) = false ∧
       (t.gh = true → st.gh = false →
         w.1 = true ∧ (guards st.guarded .gh = false ∨ e.dt = 0) ∧ t.ghBlank = some 0) ∧
       (t.gl = true → st.gl = false →
         w.2 = true ∧ (guards st.guarded .gl = false ∨ e.dt = 0) ∧ t.glBlank = some 0) ∧
       (w.1 = true → st.gl = false → guards st.guarded .gh = false → t.gh = true) ∧
       (w.2 = true → st.gh = false → guards st.guarded .gl = false → t.gl = true) ∧
       (w.1 = true → st.gl = true → e.dt = 0 → t.gh = true) ∧
       (w.2 = true → st.gh = true → e.dt = 0 → t.gl = true) ∧
       (w.1 = true → st.gh = true → t.gh = true) ∧ (w.2 = true → st.gl = true → t.gl = true) ∧
       (w.1 = false → t.gh = false) ∧ (w.2 = false → t.gl = false) ∧
       (st.gh = true → t.gh = false →
         t.deadTimer = 0 ∧ t.ghBlank = none ∧ (e.dt ≠ 0 → t.gl = false ∧ t.guarded = .gl)) ∧
       (st.gl = true → t.gl = false →
         t.deadTimer = 0 ∧ t.glBlank = none ∧ (e.dt ≠ 0 → t.gh = false ∧ t.guarded = .gh)) ∧
       (t.gh = st.gh → t.ghBlank = st.ghBlank) ∧ (t.gl = st.gl → t.glBlank = st.glBlank) ∧
       ((st.gh = true → t.gh = true) → (st.gl = true → t.gl = true) →
         t.deadTimer = st.deadTimer ∧ t.guarded = st.guarded) ∧
       t.state = st.state ∧ t.seen = st.seen ∧ t.fromIdleLow = st.fromIdleLow)

/-- R54, R60 to R63, R69: what each mode's layout asks of the two gates at a position of a period,
on the legs whose kind has the gates it drives; on a HIGH_SIDE leg GL and on a LOW_SIDE leg GH is
never asked for. In a period cut at position c, GH is no longer asked for from c on, and GL is asked
for over [c + DT, P − DT) in COMPLEMENTARY and never in HIGH_ONLY. R54, R58, R65, R66: in RESTING GL
is asked for while the unit is HELD with idle level LOW, and in FORCED, LEADING and WAITING neither
gate is. -/
def Obligations.LayoutsAskForTheirIntervals : Prop :=
  (∀ (e : LegEntry) (held : Bool) (st : Stage) (y : Layout) (pos : Nat),
    st.state = .playing y pos → pos < y.period →
    let gh := (wantedGates e held st).1
    let gl := (wantedGates e held st).2
    (e.kind = .highSide → gl = false) ∧ (e.kind = .lowSide → gh = false) ∧
    (y.mode = .complementary → e.kind = .halfBridge → y.cut = none →
      y.onTime + 2 * e.dt ≤ y.period →
      (gh = true ↔ pos < y.onTime) ∧
        (gl = true ↔ y.onTime + e.dt ≤ pos ∧ pos < y.period - e.dt)) ∧
    (∀ c, y.mode = .complementary → e.kind = .halfBridge → y.cut = some c → c ≤ pos →
      gh = false ∧ (gl = true ↔ c + e.dt ≤ pos ∧ pos < y.period - e.dt)) ∧
    (y.mode = .highOnly → e.kind ≠ .lowSide → y.cut = none →
      (gh = true ↔ pos < y.onTime) ∧ gl = false) ∧
    (∀ c, y.mode = .highOnly → y.cut = some c → c ≤ pos → gh = false ∧ gl = false) ∧
    (y.mode = .lowOnly → e.kind ≠ .highSide → gh = false ∧ (gl = true ↔ pos < y.onTime)) ∧
    (y.mode = .holdLow → e.kind ≠ .highSide → e.dt < y.period →
      gh = false ∧ (gl = true ↔ (y.final = false ∨ pos < y.period - e.dt))) ∧
    (y.mode = .off → gh = false ∧ gl = false)) ∧
  (∀ (e : LegEntry) (held : Bool) (st : Stage),
    (st.state = .resting → wantedGates e held st = (false, showsLow e held)) ∧
    (st.state = .forced ∨ st.state = .waiting ∨ (∃ y, st.state = .leading y) →
      wantedGates e held st = (false, false)))

/-- R38, R57, R62, R66: the waveform events of leg `l` that are due act on its stage record alone:
the decision point of a continuous HOLD_LOW period, a gate change of the layout, the end of the
dead-time guard, which becomes none, a turn-on still asked for taking place then with its blanking
count at 0, and the end of the leading dead time, which begins period 0. The gates are asked for by
level, and the mark of the judged period is the model's (logs 16 and 18). -/
def Obligations.WaveformEventsMoveTheStage : Prop :=
  ∀ (l : Leg) (s : State),
    (∀ (y : Layout) (pos : Nat) (a : Active), (s.stage l).state = .playing y pos →
      (s.seq l).active = some a →
      (a.seg.count = 0 → y.mode = .holdLow → (s.legEntry l).dt ≠ 0 → y.judged = false →
        pos + (s.legEntry l).dt = y.period →
        exec (.decisionPoint l) s = .next
          { s with
            stages := s.stages.set l
              (settleStage (s.legEntry l) (s.unitHeld l)
                { s.stage l with
                  state := .playing
                    { y with
                      judged := true
                      final := y.final || !(s.seq l).queue.isEmpty ||
                        decide ((s.unit (s.unitOf l)).lease = .releasing) } pos }) })) ∧
    (∀ (y : Layout) (pos : Nat), (s.stage l).state = .playing y pos → pos < y.period →
      ((settleStage (s.legEntry l) (s.unitHeld l) (s.stage l)).gh ≠ (s.stage l).gh ∨
        (settleStage (s.legEntry l) (s.unitHeld l) (s.stage l)).gl ≠ (s.stage l).gl) →
      exec (.layoutGateChange l) s = .next
        { s with
          stages := s.stages.set l
            (settleStage (s.legEntry l) (s.unitHeld l) (s.stage l)) }) ∧
    ((s.stage l).guarded ≠ .none → (s.legEntry l).dt ≤ (s.stage l).deadTimer →
      let st := s.stage l
      let w := wantedGates (s.legEntry l) (s.unitHeld l) st
      let onGH := w.1 && !st.gh && !st.gl
      let onGL := w.2 && !st.gh && !st.gl
      exec (.deadTimeGuardExpiry l) s = .next
        { s with
          stages := s.stages.set l
            { st with
              guarded := .none, gh := st.gh || onGH, gl := st.gl || onGL
              ghBlank := if onGH then some 0 else st.ghBlank
              glBlank := if onGL then some 0 else st.glBlank } }) ∧
    (∀ y : Layout, (s.stage l).state = .leading y →
      (s.legEntry l).dt ≤ (s.stage l).deadTimer →
      exec (.leadingDeadTimeEnd l) s = .next
        { s with
          stages := s.stages.set l
            (beginPeriod (s.legEntry l) (s.unitHeld l) y (s.stage l)) })

/-! ### Sense inputs and trips -/

/-- R77, R79 to R84, R93: a sample is not counted when the input is unarmed, which records the raw
level alone; when it falls outside its window, is blanked or reads inactive, it clears the count and
the qualified flag; a counted active sample raises the count, up to qualify. An inactive sample
re-arms NOTE. Short of an activation nothing else changes. The voltages come with the row and the wu
judged is the latest whole one (logs 10 and 11). That a window which closed and opened again with no
wu between is open to every sample, also where R86 has it closed, is the model's choice (log 25). -/
def Obligations.ASampleIsJudged : Prop :=
  ∀ (n : SenseNo) (sns vref : Nat) (s : State),
    let e := s.senseEntry n
    let r := s.sense n
    let v := (s.stage e.target).seen
    let level : Level := if (e.threshold + 1) * vref < sns * 64 then .high else .low
    let active := if e.polarity = .above then level = .high else level = .low
    let counts :=
      (e.window = .highOn → v.gh = true ∧ ∃ b, v.ghBlank = some b ∧ e.blank ≤ b) ∧
      (e.window = .lowOn → v.gl = true ∧ ∃ b, v.glBlank = some b ∧ e.blank ≤ b)
    (r.armed = false →
      exec (.senseSample n sns vref) s = .next
        { s with senses := s.senses.set n { r with raw := level } }) ∧
    (r.armed = true → ¬ active →
      exec (.senseSample n sns vref) s = .next
        { s with
          senses := s.senses.set n
            { raw := level, armed := true, count := 0, qualified := false, rearm := true } }) ∧
    (r.armed = true → active →
      (e.window = .highOn → v.gh = true → v.ghBlank ≠ none) →
      (e.window = .lowOn → v.gl = true → v.glBlank ≠ none) →
      (¬ counts →
        exec (.senseSample n sns vref) s = .next
          { s with
            senses := s.senses.set n
              { raw := level, armed := true, count := 0, qualified := false
                rearm := r.rearm } }) ∧
      (counts → r.qualified = true ∨ r.count + 1 < e.qualify →
        exec (.senseSample n sns vref) s = .next
          { s with
            senses := s.senses.set n
              { raw := level, armed := true, count := min e.qualify (r.count + 1)
                qualified := r.qualified, rearm := r.rearm } }))

/-- R69, R71, R73, R83 to R88: the sample that brings an armed input to its qualify begins an
activation, whose action is taken once: a NOTE sends SENSE_EVENT to the holder and the supervisor
port if its flag is yes; a CYCLE turns GH off at once on a leg playing with GH on and counts the
first cut of a period; the cut that raises the escalation counter to a limit other than 0 asks for
the trip of the leg's unit in the same event; a LATCH asks for the trip of its target's unit. The
position of the cut is kept for the layout (log 18). -/
def Obligations.AnActivationTakesItsAction : Prop :=
  ∀ (n : SenseNo) (s : State) (sns vref : Nat) (level : Level),
    let e := s.senseEntry n
    let r := s.sense n
    level = (if (e.threshold + 1) * vref < sns * 64 then .high else .low) →
    r.armed = true → r.qualified = false → e.qualify ≤ r.count + 1 →
    (e.polarity = .above → level = .high) → (e.polarity = .below → level = .low) →
    (e.window = .highOn →
      (s.stage e.target).seen.gh = true ∧
        ∃ b, (s.stage e.target).seen.ghBlank = some b ∧ e.blank ≤ b) →
    (e.window = .lowOn →
      (s.stage e.target).seen.gl = true ∧
        ∃ b, (s.stage e.target).seen.glBlank = some b ∧ e.blank ≤ b) →
      let l := e.target
      let judged : SenseRec :=
        { raw := level, armed := true, count := e.qualify, qualified := true, rearm := r.rearm }
      let i := Instr.senseSample n sns vref
      (e.action = .note → r.rearm = true →
        HappensTelling i s { s with senses := s.senses.set n { judged with rearm := false } }
          (toBoth (s.unit (s.unitOf l)).holder s.board.supervisor (.senseEvent n l))) ∧
      (e.action = .note → r.rearm = false →
        exec i s = .next { s with senses := s.senses.set n judged }) ∧
      (∀ y pos, e.action = .cycle → (s.stage l).state = .playing y pos →
        (s.stage l).gh = true → (s.seq l).cutSeen = false →
        (s.legEntry l).escalation = 0 ∨
          min 255 ((s.seq l).escalation + 1) ≠ (s.legEntry l).escalation →
        exec i s = .next
          { s with
            senses := s.senses.set n judged
            stages := s.stages.set l
              { s.stage l with
                state := .playing { y with cut := some pos } pos
                gh := false, ghBlank := none, deadTimer := 0
                guarded := if (s.legEntry l).dt = 0 then .none else .gl }
            seqs := s.seqs.set l
              { s.seq l with
                cutSeen := true, escalation := min 255 ((s.seq l).escalation + 1)
                lastCut := some n } }) ∧
      (∀ y pos, e.action = .cycle → (s.stage l).state = .playing y pos →
        (s.stage l).gh = true → (s.seq l).cutSeen = true →
        exec i s = .next
          { s with
            senses := s.senses.set n judged
            stages := s.stages.set l
              { s.stage l with
                state := .playing { y with cut := some pos } pos
                gh := false, ghBlank := none, deadTimer := 0
                guarded := if (s.legEntry l).dt = 0 then .none else .gl } }) ∧
      (∀ y pos, e.action = .cycle → (s.stage l).state = .playing y pos →
        (s.stage l).gh = true → (s.seq l).cutSeen = false →
        (s.legEntry l).escalation ≠ 0 →
        min 255 ((s.seq l).escalation + 1) = (s.legEntry l).escalation →
        exec i s = .next
          ({ s with
            senses := s.senses.set n judged
            stages := s.stages.set l
              { s.stage l with
                state := .playing { y with cut := some pos } pos
                gh := false, ghBlank := none, deadTimer := 0
                guarded := if (s.legEntry l).dt = 0 then .none else .gl }
            seqs := s.seqs.set l
              { s.seq l with
                cutSeen := true, escalation := (s.legEntry l).escalation
                lastCut := some n } }.tripRequest (s.unitOf l) (.escalated n) (some l))) ∧
      (e.action = .cycle → (s.stage l).gh = false →
        exec i s = .next { s with senses := s.senses.set n judged }) ∧
      (e.action = .latch →
        exec i s = .next
          ({ s with senses := s.senses.set n judged }.tripRequest (s.unitOf l) (.sense n)
            (some l)))

/-- R98 to R101: a trip request for a NORMAL unit records the trip, forces off and flushes its legs
and sends TRIPPED to the holder and the supervisor port; a RELEASING unit then drains. A request for
a TRIPPED unit only joins the later causes. -/
def Obligations.ATripRequestTripsOrIsRecorded : Prop :=
  ∀ (s : State) (u : UnitNo) (c : Cause) (leg : Option Leg),
    let count := ((four.filter fun l => decide (s.unitOf l = u)).map fun l =>
      (s.seq l).queue.length + (if (s.seq l).active = none then 0 else 1)).sum
    let tag := leg.bind fun l => (s.seq l).active.map fun a => a.seg.tag
    let info : TripInfo :=
      { cause := c, leg := leg, stamp := s.time.stamp, tag := tag, owner := (s.unit u).holder
        discarded := count }
    let trips := s.trips.set u { info := some info, laterSenses := 0, laterExternal := false }
    let tells := toBoth (s.unit u).holder s.board.supervisor (.tripped u c leg tag count)
    ((s.trip u).info = none → (s.unit u).lease ≠ .releasing →
      s.tripRequest u c leg =
        { s with
          trips := trips, seqs := s.seqsFlushed u
          stages := s.stages.mapIdx fun l st =>
            if s.unitOf l = u then forceStage (s.legEntry l) st else st
          ports := s.told tells }) ∧
    ((s.trip u).info = none → (s.unit u).lease = .releasing →
      s.tripRequest u c leg =
        { s with
          trips := trips, seqs := s.seqsFlushed u
          units := s.units.set u (s.unitAfterLease u)
          stages := s.legsAfterLease u true fun e st => forceStage e st
          ports := s.told fun k =>
            tells k ++ toPort (s.unit u).holder [.releaseDone u] k ++ s.grantTold u true k }) ∧
    (∀ info, (s.trip u).info = some info →
      (∀ n, c = .sense n →
        s.tripRequest u c leg =
          { s with
            trips := s.trips.set u
              { s.trip u with
                laterSenses := (s.trip u).laterSenses ||| (1 <<< n.val) } }) ∧
      (c = .external →
        s.tripRequest u c leg =
          { s with trips := s.trips.set u { s.trip u with laterExternal := true } }))

/-- R20, R98 to R102: a low FAULT_N sample after a high one records the level and in RUN asks for
the trip of U0 to U3 in turn, but for absent units: a NORMAL one becomes TRIPPED by EXTERNAL with no
leg, its legs forced off and flushed, and drains if it is RELEASING; a TRIPPED one records EXTERNAL
among its later causes. Per unit tripped, in unit order, TRIPPED goes to the holder and the
supervisor port, then RELEASE_DONE to the port of a RELEASING unit; each GRANTED of a quiet time of
0 comes after all of these, in unit order (R27). In SETUP, and within a spell, no request is made,
and a high sample makes none. -/
def Obligations.FaultNTripsEveryPresentUnit : Prop :=
  ∀ s : State,
    let count := fun u => ((four.filter fun l => decide (s.unitOf l = u)).map fun l =>
      (s.seq l).queue.length + (if (s.seq l).active = none then 0 else 1)).sum
    (s.faultN = .high → s.setup.phase = .run →
      HappensTelling .faultNLowSpell s
        { s with
          faultN := .low
          trips := s.trips.mapIdx fun u r =>
            if s.present u = false then r
            else if r.info = none then
              { info := some
                  { cause := .external, leg := none, stamp := s.time.stamp, tag := none
                    owner := (s.unit u).holder, discarded := count u }
                laterSenses := 0, laterExternal := false }
            else { r with laterExternal := true }
          seqs := s.seqs.mapIdx fun l q =>
            if (s.trip (s.unitOf l)).info = none then q.flushed else q
          stages := s.stages.mapIdx fun l st =>
            if (s.trip (s.unitOf l)).info = none then forceStage (s.legEntry l) st else st
          units := s.units.mapIdx fun u r =>
            if s.present u = true ∧ (s.trip u).info = none ∧ r.lease = .releasing then
              s.unitAfterLease u
            else r }
        fun k =>
          ((four.filter fun u => s.present u && (s.trip u).info.isNone).flatMap fun u =>
            toBoth (s.unit u).holder s.board.supervisor
                (.tripped u .external none none (count u)) k ++
              (if (s.unit u).lease = .releasing then
                toPort (s.unit u).releasing [.releaseDone u] k
              else [])) ++
            (four.filter fun u =>
              s.present u && (s.trip u).info.isNone && decide ((s.unit u).lease = .releasing)).flatMap
                fun u => s.grantTold u true k) ∧
    (s.faultN = .high → s.setup.phase = .setup →
      exec .faultNLowSpell s = .next { s with faultN := .low }) ∧
    (s.faultN = .low → exec .faultNLowSpell s = .next s) ∧
    exec .faultNRise s = .next { s with faultN := .high }

/-- R105, R106: CLEAR_TRIP is checked in order, the latch-hold and FAULT_N last. A clear returns the
record to NORMAL, resets the escalation of the unit's legs, and lets them rest if the supply is
GOOD. -/
def Obligations.ClearTripIsCheckedAndClears : Prop :=
  ∀ (p : Port) (seq unit : Byte) (s : State), s.canTake p .clearTrip →
    let i := Instr.clearTrip p seq unit
    (s.setup.phase = .setup → Refuses i s p .clearTrip seq .notRunning) ∧
    (s.setup.phase = .run →
      ((∀ u, ¬ s.names unit u) → Refuses i s p .clearTrip seq .noSuch) ∧
      (∀ u, s.names unit u →
        let owns := (s.unit u).lease = .held ∧ (s.unit u).owner = some p
        let holds := ∃ n : SenseNo, (s.sense n).armed = true ∧
          (s.senseEntry n).action = .latch ∧ s.unitOf (s.senseEntry n).target = u ∧
          ((s.sense n).qualified = true ∨
            ((s.senseEntry n).window = .any ∧
              readsActive (s.senseEntry n).polarity (s.sense n).raw = true))
        (¬ owns → Refuses i s p .clearTrip seq .notOwner) ∧
        (owns → (s.trip u).info = none → Refuses i s p .clearTrip seq .notTripped) ∧
        (owns → (s.trip u).info ≠ none → s.faultN = .low ∨ holds →
          Refuses i s p .clearTrip seq .stillActive) ∧
        (owns → (s.trip u).info ≠ none → s.faultN = .high → ¬ holds →
          Completes i s p .clearTrip seq .ok [numByte u]
            { s with
              trips := s.trips.set u
                { info := none, laterSenses := 0, laterExternal := false }
              seqs := s.seqs.mapIdx fun l q =>
                if s.unitOf l = u then { q with escalation := 0, cutSeen := false } else q
              stages := s.stages.mapIdx fun l st =>
                if s.unitOf l = u ∧ s.supply.state = .good then
                  restStage (s.legEntry l) true st
                else st })))

/-! ### Supply, time and SYNC -/

/-- R112 to R114, R119: a high VG sample in DOWN enters SETTLING with the settle time of the board
table; a low one in SETTLING goes back to DOWN; the end of the settle timer enters GOOD, and every
leg on which drive is then permitted rests, with SUPPLY_GOOD for every port. R115 to R117: a low VG
sample in GOOD takes the power stage down: every leg is forced off and flushed, SUPPLY_LOW with the
four counts goes to every port, and each RELEASING unit then drains in unit order, with RELEASE_DONE
for its port; each GRANTED of a quiet time of 0 comes after all of these, in unit order (R27); every
other lease, and every trip, is kept. The rows carry the voltage in µV; outside the bounds of
section 1.5 the sample is certain (log 9). -/
def Obligations.TheSupplyLeavesAndReachesGood : Prop :=
  (∀ (s : State) (vg : Nat),
     (s.supply.state = .down → 1400000 < vg →
       exec (.vgHighSample vg) s = .next
         { s with supply := { state := .settling, timer := s.board.settle } }) ∧
     (s.supply.state = .settling → vg < 1100000 →
       exec (.vgLowSampleSettling vg) s = .next
         { s with supply := { state := .down, timer := 0 } }) ∧
     (s.supply.state = .settling → s.supply.timer = 0 →
       HappensTelling .settleTimerExpiry s
         { s with
           supply := { state := .good, timer := 0 }
           stages := s.stages.mapIdx fun l st =>
             if ((s.unit (s.unitOf l)).lease = .held ∨ (s.unit (s.unitOf l)).lease = .releasing) ∧
                 s.tripped (s.unitOf l) = false ∧ s.setup.phase = .run then
               restStage (s.legEntry l) (decide ((s.unit (s.unitOf l)).lease = .held)) st
             else st }
         fun _ => [.supplyGood])) ∧
  (∀ (s : State) (vg : Nat), s.supply.state = .good → vg < 1100000 →
     HappensTelling (.supplyLeavingGood vg) s
       { s with
         supply := { state := .down, timer := 0 }
         stages := s.stages.mapIdx fun l st => forceStage (s.legEntry l) st
         seqs := s.seqs.mapIdx fun _ q => q.flushed
         units := s.units.mapIdx fun u r =>
           if r.lease = .releasing then s.unitAfterLease u else r }
       fun k =>
         .supplyLow (Four.tabulate fun l =>
             (s.seq l).queue.length + (if (s.seq l).active = none then 0 else 1)) ::
           (((four.filter fun u => decide ((s.unit u).lease = .releasing)).flatMap fun u =>
               toPort (s.unit u).releasing [.releaseDone u] k) ++
             (four.filter fun u => decide ((s.unit u).lease = .releasing)).flatMap fun u =>
               s.grantTold u (s.tripped u) k))

/-- R4, R121, R122: a step of the timestamp: it wraps at 32 bits, every QUIET unit's quiet timer
goes down, and the sub-millisecond count runs from 0 to 999, the step from 999 drawing a tick. The
row acts whenever it comes; the count of wu and the ticks drawn are the model's (log 5). -/
def Obligations.TheTimestampSteps : Prop :=
  ∀ s : State,
    ∃ t, exec .timestampStep s = .next t ∧ t.time.stamp = s.time.stamp + 1 ∧
      (s.time.subMs = 999 → t.time.subMs = 0 ∧ t.time.ticksDue = s.time.ticksDue + 1) ∧
      (s.time.subMs ≠ 999 →
        t.time.subMs = s.time.subMs + 1 ∧ t.time.ticksDue = s.time.ticksDue) ∧
      t.time.syncCount = s.time.syncCount ∧ t.time.syncLast = s.time.syncLast ∧
      t.time.wu = 0 ∧
      (∀ u : UnitNo, (s.unit u).lease = .quiet →
        t.unit u = { s.unit u with quiet := (s.unit u).quiet - 1 }) ∧
      (∀ u : UnitNo, (s.unit u).lease ≠ .quiet → t.unit u = s.unit u) ∧
      t = { s with time := t.time, units := t.units }

/-- R3, R7, R11, R113, R122, R135: the millisecond tick counts down every lease, wait, settle and
lock timer that runs, and sends LEASE_LOW to the owner of a HELD unit whose lease remaining it
brings to a quarter of the period, rounded up, while armed. R135: when inactivity remaining has
reached 0 the lock is dropped, without a notice. When one tick brings several units there, the
notices are placed in unit order: the model's choice, for R7 gives no order (log 6). The row acts
whenever it comes, and what the tick brings to 0 ends in rows of their own (logs 5 and 6). -/
def Obligations.TheTickAndTheLockTimer : Prop :=
  (∀ s : State,
     let left := fun u => if (s.unit u).lease = .held ∨ (s.unit u).lease = .releasing then
       (s.unit u).remaining - 1 else (s.unit u).remaining
     let low := fun u => decide ((s.unit u).lease = .held) && (s.unit u).leaseLowArmed &&
       (s.unit u).period.any fun period =>
         decide (period ≤ 4 * left u) && decide (4 * left u < period + 4)
     HappensTelling .millisecondTick s
       { s with
         time := { s.time with ticksDue := s.time.ticksDue - 1 }
         units := s.units.mapIdx fun u r =>
           { r with
             remaining := left u
             wait := r.wait.map fun w => { w with remaining := w.remaining.map fun n => n - 1 }
             leaseLowArmed := r.leaseLowArmed && !low u }
         supply := { s.supply with
           timer := if s.supply.state = .settling then s.supply.timer - 1 else s.supply.timer }
         setup := { s.setup with
           inactivity := if s.setup.holder = none then s.setup.inactivity
             else s.setup.inactivity - 1 } }
       fun k => (four.filter fun u => low u && decide ((s.unit u).owner = some k)).map fun u =>
         .leaseLow u (left u)) ∧
  (∀ s : State, s.setup.holder ≠ none → s.setup.inactivity = 0 →
     exec .setupLockInactivityExpiry s = .next
       { s with setup := { s.setup with holder := none } })

/-- R35, R66, R127: the step at which the timestamp reaches t opens an AT_TIME gate: the start-gate
state is removed, the late flag stays, and period 0 begins, after what remains of the leading dead
time. While the gate is closed the row has no effect (log 2). R124, R128: a SYNC sample is an edge
when it is high after a low one; the first after a reset is none. An edge is counted modulo 2¹⁶; a
leg GATED on more edges counts it, one that needs one edge opens, and every other leg is as it was.
The row carries the sample (log 8). R66: while less than DT has passed since the take turned GL off
from idle LOW, a leg whose gate opens is LEADING with gates, timer and guard as they were; else
period 0 begins at position 0. -/
def Obligations.StartGatesOpen : Prop :=
  (∀ (e : LegEntry) (held : Bool) (a : Active) (st : Stage),
     let y : Layout :=
       { mode := a.seg.mode, period := a.seg.period, onTime := a.onTime
         final := decide (a.seg.count ≠ 0 ∧ a.completed + 1 = a.seg.count)
         cut := none, judged := false }
     (st.fromIdleLow = true → st.deadTimer < e.dt →
       openStage e held a st = { st with state := .leading y }) ∧
     (¬ (st.fromIdleLow = true ∧ st.deadTimer < e.dt) →
       (openStage e held a st).state = .playing y 0 ∧
         openStage e held a st =
           settleStage e held { st with state := .playing y 0, fromIdleLow := false })) ∧
  (∀ (l : Leg) (s : State) (a : Active) (t : Stamp),
     (s.seq l).active = some a → a.gate = some .waiting → a.seg.gate = some (.atTime t) →
       ((s.time.stamp.toNat + 2 ^ 32 - t.toNat) % 2 ^ 32 < 2 ^ 31 →
         exec (.atTimeOpening l) s = .next
           { s with
             seqs := s.seqs.set l { s.seq l with active := some { a with gate := none } }
             stages := s.stages.set l
               (openStage (s.legEntry l) (s.unitHeld l) { a with gate := none } (s.stage l)) }) ∧
       (2 ^ 31 ≤ (s.time.stamp.toNat + 2 ^ 32 - t.toNat) % 2 ^ 32 →
         exec (.atTimeOpening l) s = .next s)) ∧
  (∀ (s : State) (sample : Level),
     (¬ (s.time.syncLast = some .low ∧ sample = .high) →
       exec (.syncRisingEdge sample) s = .next
         { s with time := { s.time with syncLast := some sample } }) ∧
     (s.time.syncLast = some .low → sample = .high →
       ∃ t, exec (.syncRisingEdge sample) s = .next t ∧
         t.time = { s.time with syncLast := some .high, syncCount := s.time.syncCount + 1 } ∧
         (∀ (l : Leg) (a : Active) (n : Nat), (s.seq l).active = some a →
           a.gate = some (.edges n) →
           (2 ≤ n →
             t.seq l = { s.seq l with active := some { a with gate := some (.edges (n - 1)) } } ∧
               t.stage l = s.stage l) ∧
           (n = 1 →
             t.seq l = { s.seq l with active := some { a with gate := none } } ∧
               t.stage l =
                 openStage (s.legEntry l) (s.unitHeld l) { a with gate := none } (s.stage l))) ∧
         (∀ l : Leg, (∀ a n, (s.seq l).active = some a → a.gate ≠ some (.edges n)) →
           t.seq l = s.seq l ∧ t.stage l = s.stage l) ∧
         t = { s with time := t.time, seqs := t.seqs, stages := t.stages }))

/-! ### Laws of the whole part -/

/-- R57: no step breaks the dead-time law. -/
def Obligations.EveryStepKeepsTheDeadTimeLaw : Prop :=
  ∀ s t : State, s.deadTimeLaw → step s = .next t → t.deadTimeLaw

/-- R54, R56: no step breaks the law of drive permission, in states that keep the laws of the
pending queues, the trip records and the unit records. -/
def Obligations.EveryStepKeepsTheDriveLaw : Prop :=
  ∀ s t : State, s.driveLaw → s.pendingQueueLaw → s.tripLaw → s.leaseLaw →
    step s = .next t → t.driveLaw

/-- R154: no step breaks the limits of the reply queues. R30: no step breaks the limits of the
pending queues. -/
def Obligations.EveryStepKeepsTheQueueLaws : Prop :=
  (∀ s t : State, s.replyQueueLaw → step s = .next t → t.replyQueueLaw) ∧
  (∀ s t : State, s.pendingQueueLaw → step s = .next t → t.pendingQueueLaw)

/-- R2, R6, R10: no step breaks the law of the unit records. -/
def Obligations.EveryStepKeepsTheLeaseLaw : Prop :=
  ∀ s t : State, s.leaseLaw → step s = .next t → t.leaseLaw

/-- R96, R98, R111: no step breaks the law of the trip records. -/
def Obligations.EveryStepKeepsTheTripLaw : Prop :=
  ∀ s t : State, s.tripLaw → s.driveLaw → s.pendingQueueLaw → s.senseLaw →
    step s = .next t → t.tripLaw

/-- R131, R133, R146: in RUN the board table does not change, and only a reset leaves RUN. -/
def Obligations.TheBoardIsFrozenInRun : Prop :=
  ∀ s t : State, s.setup.phase = .run → s.lockLaw → step s = .next t →
    (t.setup = s.setup ∨
      ((∃ cs rest, s.pending = .powerOnReset cs :: rest ∨ s.pending = .rstNReset cs :: rest) ∧
        t.setup = Setup.reset))

/-- R78, R93, R135, R146: no step breaks the laws of the setup lock and of the sense inputs. -/
def Obligations.EveryStepKeepsTheLockAndSenseLaws : Prop :=
  ∀ s t : State, s.lockLaw → s.senseLaw → step s = .next t → t.lockLaw ∧ t.senseLaw

/-- The state after reset keeps every law. -/
def Obligations.ResetKeepsEveryLaw : Prop :=
  State.reset.deadTimeLaw ∧ State.reset.driveLaw ∧ State.reset.replyQueueLaw ∧
    State.reset.pendingQueueLaw ∧ State.reset.leaseLaw ∧ State.reset.tripLaw ∧
    State.reset.lockLaw ∧ State.reset.senseLaw
end

