-- ==== Sys2Proof/Laws/State.lean ====
section
/-! SUPPORT. One lemma per field per update of the part's records, and the laws of the two record
tables: what an entry reads after a write, a map or a tabulation. -/

namespace Sys2Proof

/-! ### Tables of four -/

theorem Four.get_set {α : Type} (t : Four α) (i j : Fin 4) (x : α) :
    (t.set i x).get j = if j = i then x else t.get j := by
  fin_cases i <;> fin_cases j <;> rfl
@[simp] theorem Four.get_set_same {α : Type} (t : Four α) (i : Fin 4) (x : α) :
    (t.set i x).get i = x := by simp [Four.get_set]
theorem Four.get_set_ne {α : Type} (t : Four α) (i j : Fin 4) (x : α) (h : j ≠ i) :
    (t.set i x).get j = t.get j := by simp [Four.get_set, h]
@[simp] theorem Four.get_tabulate {α : Type} (f : Fin 4 → α) (i : Fin 4) :
    (Four.tabulate f).get i = f i := by fin_cases i <;> rfl
@[simp] theorem Four.get_mapIdx {α β : Type} (t : Four α) (f : Fin 4 → α → β) (i : Fin 4) :
    (t.mapIdx f).get i = f i (t.get i) := by fin_cases i <;> rfl
theorem Four.ext_get {α : Type} (t t' : Four α) (h : ∀ i, t.get i = t'.get i) : t = t' := by
  cases t; cases t'
  simpa [Four.get] using And.intro (h 0) (And.intro (h 1) (And.intro (h 2) (h 3)))
@[simp] theorem Four.set_get {α : Type} (t : Four α) (i : Fin 4) : t.set i (t.get i) = t := by
  fin_cases i <;> rfl
@[simp] theorem Four.set_set {α : Type} (t : Four α) (i : Fin 4) (x y : α) :
    (t.set i x).set i y = t.set i y := by fin_cases i <;> rfl
theorem Four.set_comm {α : Type} (t : Four α) (i j : Fin 4) (x y : α) (h : i ≠ j) :
    (t.set i x).set j y = (t.set j y).set i x := by
  fin_cases i <;> fin_cases j <;> first | rfl | exact absurd rfl h
theorem Four.tabulate_get {α : Type} (t : Four α) : Four.tabulate t.get = t := rfl
theorem Four.mem_four (i : Fin 4) : i ∈ four := by fin_cases i <;> simp [four]

/-! ### Tables of eight -/

theorem Eight.get_set {α : Type} (t : Eight α) (i j : Fin 8) (x : α) :
    (t.set i x).get j = if j = i then x else t.get j := by
  fin_cases i <;> fin_cases j <;> rfl
@[simp] theorem Eight.get_set_same {α : Type} (t : Eight α) (i : Fin 8) (x : α) :
    (t.set i x).get i = x := by simp [Eight.get_set]
@[simp] theorem Eight.get_tabulate {α : Type} (f : Fin 8 → α) (i : Fin 8) :
    (Eight.tabulate f).get i = f i := by fin_cases i <;> rfl
@[simp] theorem Eight.get_mapIdx {α β : Type} (t : Eight α) (f : Fin 8 → α → β) (i : Fin 8) :
    (t.mapIdx f).get i = f i (t.get i) := by fin_cases i <;> rfl
@[simp] theorem Eight.set_set {α : Type} (t : Eight α) (i : Fin 8) (x y : α) :
    (t.set i x).set i y = t.set i y := by fin_cases i <;> rfl
@[simp] theorem Eight.set_get {α : Type} (t : Eight α) (i : Fin 8) : t.set i (t.get i) = t := by
  fin_cases i <;> rfl
theorem Eight.mem_eight (i : Fin 8) : i ∈ eight := by fin_cases i <;> simp [eight]

namespace Machine

/-! ### `State.setPort` -/

@[simp] theorem State.setPort_pending (s : State) (p : Port) (r : PortRec) :
    (s.setPort p r).pending = s.pending := rfl
@[simp] theorem State.setPort_ports (s : State) (p : Port) (r : PortRec) :
    (s.setPort p r).ports = s.ports.set p r := rfl
@[simp] theorem State.setPort_cause (s : State) (p : Port) (r : PortRec) :
    (s.setPort p r).cause = s.cause := rfl
@[simp] theorem State.setPort_setup (s : State) (p : Port) (r : PortRec) :
    (s.setPort p r).setup = s.setup := rfl
@[simp] theorem State.setPort_units (s : State) (p : Port) (r : PortRec) :
    (s.setPort p r).units = s.units := rfl
@[simp] theorem State.setPort_seqs (s : State) (p : Port) (r : PortRec) :
    (s.setPort p r).seqs = s.seqs := rfl
@[simp] theorem State.setPort_stages (s : State) (p : Port) (r : PortRec) :
    (s.setPort p r).stages = s.stages := rfl
@[simp] theorem State.setPort_senses (s : State) (p : Port) (r : PortRec) :
    (s.setPort p r).senses = s.senses := rfl
@[simp] theorem State.setPort_trips (s : State) (p : Port) (r : PortRec) :
    (s.setPort p r).trips = s.trips := rfl
@[simp] theorem State.setPort_faultN (s : State) (p : Port) (r : PortRec) :
    (s.setPort p r).faultN = s.faultN := rfl
@[simp] theorem State.setPort_supply (s : State) (p : Port) (r : PortRec) :
    (s.setPort p r).supply = s.supply := rfl
@[simp] theorem State.setPort_time (s : State) (p : Port) (r : PortRec) :
    (s.setPort p r).time = s.time := rfl
@[simp] theorem State.setPort_unit (s : State) (p : Port) (r : PortRec) (v : UnitNo) :
    (s.setPort p r).unit v = s.unit v := rfl
@[simp] theorem State.setPort_seq (s : State) (p : Port) (r : PortRec) (j : Leg) :
    (s.setPort p r).seq j = s.seq j := rfl
@[simp] theorem State.setPort_stage (s : State) (p : Port) (r : PortRec) (j : Leg) :
    (s.setPort p r).stage j = s.stage j := rfl
@[simp] theorem State.setPort_trip (s : State) (p : Port) (r : PortRec) (v : UnitNo) :
    (s.setPort p r).trip v = s.trip v := rfl
@[simp] theorem State.setPort_sense (s : State) (p : Port) (r : PortRec) (j : SenseNo) :
    (s.setPort p r).sense j = s.sense j := rfl
@[simp] theorem State.setPort_board (s : State) (p : Port) (r : PortRec) :
    (s.setPort p r).board = s.board := rfl
@[simp] theorem State.setPort_legEntry (s : State) (p : Port) (r : PortRec) (j : Leg) :
    (s.setPort p r).legEntry j = s.legEntry j := rfl
@[simp] theorem State.setPort_unitEntry (s : State) (p : Port) (r : PortRec) (v : UnitNo) :
    (s.setPort p r).unitEntry v = s.unitEntry v := rfl
@[simp] theorem State.setPort_senseEntry (s : State) (p : Port) (r : PortRec) (j : SenseNo) :
    (s.setPort p r).senseEntry j = s.senseEntry j := rfl
@[simp] theorem State.setPort_unitOf (s : State) (p : Port) (r : PortRec) (j : Leg) :
    (s.setPort p r).unitOf j = s.unitOf j := rfl
@[simp] theorem State.setPort_present (s : State) (p : Port) (r : PortRec) (v : UnitNo) :
    (s.setPort p r).present v = s.present v := rfl
@[simp] theorem State.setPort_tripped (s : State) (p : Port) (r : PortRec) (v : UnitNo) :
    (s.setPort p r).tripped v = s.tripped v := rfl

/-! ### `State.setUnit` -/

@[simp] theorem State.setUnit_pending (s : State) (u : UnitNo) (r : UnitRec) :
    (s.setUnit u r).pending = s.pending := rfl
@[simp] theorem State.setUnit_ports (s : State) (u : UnitNo) (r : UnitRec) :
    (s.setUnit u r).ports = s.ports := rfl
@[simp] theorem State.setUnit_cause (s : State) (u : UnitNo) (r : UnitRec) :
    (s.setUnit u r).cause = s.cause := rfl
@[simp] theorem State.setUnit_setup (s : State) (u : UnitNo) (r : UnitRec) :
    (s.setUnit u r).setup = s.setup := rfl
@[simp] theorem State.setUnit_units (s : State) (u : UnitNo) (r : UnitRec) :
    (s.setUnit u r).units = s.units.set u r := rfl
@[simp] theorem State.setUnit_seqs (s : State) (u : UnitNo) (r : UnitRec) :
    (s.setUnit u r).seqs = s.seqs := rfl
@[simp] theorem State.setUnit_stages (s : State) (u : UnitNo) (r : UnitRec) :
    (s.setUnit u r).stages = s.stages := rfl
@[simp] theorem State.setUnit_senses (s : State) (u : UnitNo) (r : UnitRec) :
    (s.setUnit u r).senses = s.senses := rfl
@[simp] theorem State.setUnit_trips (s : State) (u : UnitNo) (r : UnitRec) :
    (s.setUnit u r).trips = s.trips := rfl
@[simp] theorem State.setUnit_faultN (s : State) (u : UnitNo) (r : UnitRec) :
    (s.setUnit u r).faultN = s.faultN := rfl
@[simp] theorem State.setUnit_supply (s : State) (u : UnitNo) (r : UnitRec) :
    (s.setUnit u r).supply = s.supply := rfl
@[simp] theorem State.setUnit_time (s : State) (u : UnitNo) (r : UnitRec) :
    (s.setUnit u r).time = s.time := rfl
@[simp] theorem State.setUnit_port (s : State) (u : UnitNo) (r : UnitRec) (k : Port) :
    (s.setUnit u r).port k = s.port k := rfl
@[simp] theorem State.setUnit_seq (s : State) (u : UnitNo) (r : UnitRec) (j : Leg) :
    (s.setUnit u r).seq j = s.seq j := rfl
@[simp] theorem State.setUnit_stage (s : State) (u : UnitNo) (r : UnitRec) (j : Leg) :
    (s.setUnit u r).stage j = s.stage j := rfl
@[simp] theorem State.setUnit_trip (s : State) (u : UnitNo) (r : UnitRec) (v : UnitNo) :
    (s.setUnit u r).trip v = s.trip v := rfl
@[simp] theorem State.setUnit_sense (s : State) (u : UnitNo) (r : UnitRec) (j : SenseNo) :
    (s.setUnit u r).sense j = s.sense j := rfl
@[simp] theorem State.setUnit_board (s : State) (u : UnitNo) (r : UnitRec) :
    (s.setUnit u r).board = s.board := rfl
@[simp] theorem State.setUnit_legEntry (s : State) (u : UnitNo) (r : UnitRec) (j : Leg) :
    (s.setUnit u r).legEntry j = s.legEntry j := rfl
@[simp] theorem State.setUnit_unitEntry (s : State) (u : UnitNo) (r : UnitRec) (v : UnitNo) :
    (s.setUnit u r).unitEntry v = s.unitEntry v := rfl
@[simp] theorem State.setUnit_senseEntry (s : State) (u : UnitNo) (r : UnitRec) (j : SenseNo) :
    (s.setUnit u r).senseEntry j = s.senseEntry j := rfl
@[simp] theorem State.setUnit_unitOf (s : State) (u : UnitNo) (r : UnitRec) (j : Leg) :
    (s.setUnit u r).unitOf j = s.unitOf j := rfl
@[simp] theorem State.setUnit_present (s : State) (u : UnitNo) (r : UnitRec) (v : UnitNo) :
    (s.setUnit u r).present v = s.present v := rfl
@[simp] theorem State.setUnit_tripped (s : State) (u : UnitNo) (r : UnitRec) (v : UnitNo) :
    (s.setUnit u r).tripped v = s.tripped v := rfl

/-! ### `State.setSeq` -/

@[simp] theorem State.setSeq_pending (s : State) (l : Leg) (q : LegSeq) :
    (s.setSeq l q).pending = s.pending := rfl
@[simp] theorem State.setSeq_ports (s : State) (l : Leg) (q : LegSeq) :
    (s.setSeq l q).ports = s.ports := rfl
@[simp] theorem State.setSeq_cause (s : State) (l : Leg) (q : LegSeq) :
    (s.setSeq l q).cause = s.cause := rfl
@[simp] theorem State.setSeq_setup (s : State) (l : Leg) (q : LegSeq) :
    (s.setSeq l q).setup = s.setup := rfl
@[simp] theorem State.setSeq_units (s : State) (l : Leg) (q : LegSeq) :
    (s.setSeq l q).units = s.units := rfl
@[simp] theorem State.setSeq_seqs (s : State) (l : Leg) (q : LegSeq) :
    (s.setSeq l q).seqs = s.seqs.set l q := rfl
@[simp] theorem State.setSeq_stages (s : State) (l : Leg) (q : LegSeq) :
    (s.setSeq l q).stages = s.stages := rfl
@[simp] theorem State.setSeq_senses (s : State) (l : Leg) (q : LegSeq) :
    (s.setSeq l q).senses = s.senses := rfl
@[simp] theorem State.setSeq_trips (s : State) (l : Leg) (q : LegSeq) :
    (s.setSeq l q).trips = s.trips := rfl
@[simp] theorem State.setSeq_faultN (s : State) (l : Leg) (q : LegSeq) :
    (s.setSeq l q).faultN = s.faultN := rfl
@[simp] theorem State.setSeq_supply (s : State) (l : Leg) (q : LegSeq) :
    (s.setSeq l q).supply = s.supply := rfl
@[simp] theorem State.setSeq_time (s : State) (l : Leg) (q : LegSeq) :
    (s.setSeq l q).time = s.time := rfl
@[simp] theorem State.setSeq_port (s : State) (l : Leg) (q : LegSeq) (k : Port) :
    (s.setSeq l q).port k = s.port k := rfl
@[simp] theorem State.setSeq_unit (s : State) (l : Leg) (q : LegSeq) (v : UnitNo) :
    (s.setSeq l q).unit v = s.unit v := rfl
@[simp] theorem State.setSeq_stage (s : State) (l : Leg) (q : LegSeq) (j : Leg) :
    (s.setSeq l q).stage j = s.stage j := rfl
@[simp] theorem State.setSeq_trip (s : State) (l : Leg) (q : LegSeq) (v : UnitNo) :
    (s.setSeq l q).trip v = s.trip v := rfl
@[simp] theorem State.setSeq_sense (s : State) (l : Leg) (q : LegSeq) (j : SenseNo) :
    (s.setSeq l q).sense j = s.sense j := rfl
@[simp] theorem State.setSeq_board (s : State) (l : Leg) (q : LegSeq) :
    (s.setSeq l q).board = s.board := rfl
@[simp] theorem State.setSeq_legEntry (s : State) (l : Leg) (q : LegSeq) (j : Leg) :
    (s.setSeq l q).legEntry j = s.legEntry j := rfl
@[simp] theorem State.setSeq_unitEntry (s : State) (l : Leg) (q : LegSeq) (v : UnitNo) :
    (s.setSeq l q).unitEntry v = s.unitEntry v := rfl
@[simp] theorem State.setSeq_senseEntry (s : State) (l : Leg) (q : LegSeq) (j : SenseNo) :
    (s.setSeq l q).senseEntry j = s.senseEntry j := rfl
@[simp] theorem State.setSeq_unitOf (s : State) (l : Leg) (q : LegSeq) (j : Leg) :
    (s.setSeq l q).unitOf j = s.unitOf j := rfl
@[simp] theorem State.setSeq_present (s : State) (l : Leg) (q : LegSeq) (v : UnitNo) :
    (s.setSeq l q).present v = s.present v := rfl
@[simp] theorem State.setSeq_tripped (s : State) (l : Leg) (q : LegSeq) (v : UnitNo) :
    (s.setSeq l q).tripped v = s.tripped v := rfl

/-! ### `State.setStage` -/

@[simp] theorem State.setStage_pending (s : State) (l : Leg) (st : Stage) :
    (s.setStage l st).pending = s.pending := rfl
@[simp] theorem State.setStage_ports (s : State) (l : Leg) (st : Stage) :
    (s.setStage l st).ports = s.ports := rfl
@[simp] theorem State.setStage_cause (s : State) (l : Leg) (st : Stage) :
    (s.setStage l st).cause = s.cause := rfl
@[simp] theorem State.setStage_setup (s : State) (l : Leg) (st : Stage) :
    (s.setStage l st).setup = s.setup := rfl
@[simp] theorem State.setStage_units (s : State) (l : Leg) (st : Stage) :
    (s.setStage l st).units = s.units := rfl
@[simp] theorem State.setStage_seqs (s : State) (l : Leg) (st : Stage) :
    (s.setStage l st).seqs = s.seqs := rfl
@[simp] theorem State.setStage_stages (s : State) (l : Leg) (st : Stage) :
    (s.setStage l st).stages = s.stages.set l st := rfl
@[simp] theorem State.setStage_senses (s : State) (l : Leg) (st : Stage) :
    (s.setStage l st).senses = s.senses := rfl
@[simp] theorem State.setStage_trips (s : State) (l : Leg) (st : Stage) :
    (s.setStage l st).trips = s.trips := rfl
@[simp] theorem State.setStage_faultN (s : State) (l : Leg) (st : Stage) :
    (s.setStage l st).faultN = s.faultN := rfl
@[simp] theorem State.setStage_supply (s : State) (l : Leg) (st : Stage) :
    (s.setStage l st).supply = s.supply := rfl
@[simp] theorem State.setStage_time (s : State) (l : Leg) (st : Stage) :
    (s.setStage l st).time = s.time := rfl
@[simp] theorem State.setStage_port (s : State) (l : Leg) (st : Stage) (k : Port) :
    (s.setStage l st).port k = s.port k := rfl
@[simp] theorem State.setStage_unit (s : State) (l : Leg) (st : Stage) (v : UnitNo) :
    (s.setStage l st).unit v = s.unit v := rfl
@[simp] theorem State.setStage_seq (s : State) (l : Leg) (st : Stage) (j : Leg) :
    (s.setStage l st).seq j = s.seq j := rfl
@[simp] theorem State.setStage_trip (s : State) (l : Leg) (st : Stage) (v : UnitNo) :
    (s.setStage l st).trip v = s.trip v := rfl
@[simp] theorem State.setStage_sense (s : State) (l : Leg) (st : Stage) (j : SenseNo) :
    (s.setStage l st).sense j = s.sense j := rfl
@[simp] theorem State.setStage_board (s : State) (l : Leg) (st : Stage) :
    (s.setStage l st).board = s.board := rfl
@[simp] theorem State.setStage_legEntry (s : State) (l : Leg) (st : Stage) (j : Leg) :
    (s.setStage l st).legEntry j = s.legEntry j := rfl
@[simp] theorem State.setStage_unitEntry (s : State) (l : Leg) (st : Stage) (v : UnitNo) :
    (s.setStage l st).unitEntry v = s.unitEntry v := rfl
@[simp] theorem State.setStage_senseEntry (s : State) (l : Leg) (st : Stage) (j : SenseNo) :
    (s.setStage l st).senseEntry j = s.senseEntry j := rfl
@[simp] theorem State.setStage_unitOf (s : State) (l : Leg) (st : Stage) (j : Leg) :
    (s.setStage l st).unitOf j = s.unitOf j := rfl
@[simp] theorem State.setStage_present (s : State) (l : Leg) (st : Stage) (v : UnitNo) :
    (s.setStage l st).present v = s.present v := rfl
@[simp] theorem State.setStage_tripped (s : State) (l : Leg) (st : Stage) (v : UnitNo) :
    (s.setStage l st).tripped v = s.tripped v := rfl

/-! ### `State.setSenseRec` -/

@[simp] theorem State.setSenseRec_pending (s : State) (n : SenseNo) (r : SenseRec) :
    (s.setSenseRec n r).pending = s.pending := rfl
@[simp] theorem State.setSenseRec_ports (s : State) (n : SenseNo) (r : SenseRec) :
    (s.setSenseRec n r).ports = s.ports := rfl
@[simp] theorem State.setSenseRec_cause (s : State) (n : SenseNo) (r : SenseRec) :
    (s.setSenseRec n r).cause = s.cause := rfl
@[simp] theorem State.setSenseRec_setup (s : State) (n : SenseNo) (r : SenseRec) :
    (s.setSenseRec n r).setup = s.setup := rfl
@[simp] theorem State.setSenseRec_units (s : State) (n : SenseNo) (r : SenseRec) :
    (s.setSenseRec n r).units = s.units := rfl
@[simp] theorem State.setSenseRec_seqs (s : State) (n : SenseNo) (r : SenseRec) :
    (s.setSenseRec n r).seqs = s.seqs := rfl
@[simp] theorem State.setSenseRec_stages (s : State) (n : SenseNo) (r : SenseRec) :
    (s.setSenseRec n r).stages = s.stages := rfl
@[simp] theorem State.setSenseRec_senses (s : State) (n : SenseNo) (r : SenseRec) :
    (s.setSenseRec n r).senses = s.senses.set n r := rfl
@[simp] theorem State.setSenseRec_trips (s : State) (n : SenseNo) (r : SenseRec) :
    (s.setSenseRec n r).trips = s.trips := rfl
@[simp] theorem State.setSenseRec_faultN (s : State) (n : SenseNo) (r : SenseRec) :
    (s.setSenseRec n r).faultN = s.faultN := rfl
@[simp] theorem State.setSenseRec_supply (s : State) (n : SenseNo) (r : SenseRec) :
    (s.setSenseRec n r).supply = s.supply := rfl
@[simp] theorem State.setSenseRec_time (s : State) (n : SenseNo) (r : SenseRec) :
    (s.setSenseRec n r).time = s.time := rfl
@[simp] theorem State.setSenseRec_port (s : State) (n : SenseNo) (r : SenseRec) (k : Port) :
    (s.setSenseRec n r).port k = s.port k := rfl
@[simp] theorem State.setSenseRec_unit (s : State) (n : SenseNo) (r : SenseRec) (v : UnitNo) :
    (s.setSenseRec n r).unit v = s.unit v := rfl
@[simp] theorem State.setSenseRec_seq (s : State) (n : SenseNo) (r : SenseRec) (j : Leg) :
    (s.setSenseRec n r).seq j = s.seq j := rfl
@[simp] theorem State.setSenseRec_stage (s : State) (n : SenseNo) (r : SenseRec) (j : Leg) :
    (s.setSenseRec n r).stage j = s.stage j := rfl
@[simp] theorem State.setSenseRec_trip (s : State) (n : SenseNo) (r : SenseRec) (v : UnitNo) :
    (s.setSenseRec n r).trip v = s.trip v := rfl
@[simp] theorem State.setSenseRec_board (s : State) (n : SenseNo) (r : SenseRec) :
    (s.setSenseRec n r).board = s.board := rfl
@[simp] theorem State.setSenseRec_legEntry (s : State) (n : SenseNo) (r : SenseRec) (j : Leg) :
    (s.setSenseRec n r).legEntry j = s.legEntry j := rfl
@[simp] theorem State.setSenseRec_unitEntry (s : State) (n : SenseNo) (r : SenseRec) (v : UnitNo) :
    (s.setSenseRec n r).unitEntry v = s.unitEntry v := rfl
@[simp] theorem State.setSenseRec_senseEntry (s : State) (n : SenseNo) (r : SenseRec) (j : SenseNo) :
    (s.setSenseRec n r).senseEntry j = s.senseEntry j := rfl
@[simp] theorem State.setSenseRec_unitOf (s : State) (n : SenseNo) (r : SenseRec) (j : Leg) :
    (s.setSenseRec n r).unitOf j = s.unitOf j := rfl
@[simp] theorem State.setSenseRec_present (s : State) (n : SenseNo) (r : SenseRec) (v : UnitNo) :
    (s.setSenseRec n r).present v = s.present v := rfl
@[simp] theorem State.setSenseRec_tripped (s : State) (n : SenseNo) (r : SenseRec) (v : UnitNo) :
    (s.setSenseRec n r).tripped v = s.tripped v := rfl

/-! ### `State.setTrip` -/

@[simp] theorem State.setTrip_pending (s : State) (u : UnitNo) (r : TripRec) :
    (s.setTrip u r).pending = s.pending := rfl
@[simp] theorem State.setTrip_ports (s : State) (u : UnitNo) (r : TripRec) :
    (s.setTrip u r).ports = s.ports := rfl
@[simp] theorem State.setTrip_cause (s : State) (u : UnitNo) (r : TripRec) :
    (s.setTrip u r).cause = s.cause := rfl
@[simp] theorem State.setTrip_setup (s : State) (u : UnitNo) (r : TripRec) :
    (s.setTrip u r).setup = s.setup := rfl
@[simp] theorem State.setTrip_units (s : State) (u : UnitNo) (r : TripRec) :
    (s.setTrip u r).units = s.units := rfl
@[simp] theorem State.setTrip_seqs (s : State) (u : UnitNo) (r : TripRec) :
    (s.setTrip u r).seqs = s.seqs := rfl
@[simp] theorem State.setTrip_stages (s : State) (u : UnitNo) (r : TripRec) :
    (s.setTrip u r).stages = s.stages := rfl
@[simp] theorem State.setTrip_senses (s : State) (u : UnitNo) (r : TripRec) :
    (s.setTrip u r).senses = s.senses := rfl
@[simp] theorem State.setTrip_trips (s : State) (u : UnitNo) (r : TripRec) :
    (s.setTrip u r).trips = s.trips.set u r := rfl
@[simp] theorem State.setTrip_faultN (s : State) (u : UnitNo) (r : TripRec) :
    (s.setTrip u r).faultN = s.faultN := rfl
@[simp] theorem State.setTrip_supply (s : State) (u : UnitNo) (r : TripRec) :
    (s.setTrip u r).supply = s.supply := rfl
@[simp] theorem State.setTrip_time (s : State) (u : UnitNo) (r : TripRec) :
    (s.setTrip u r).time = s.time := rfl
@[simp] theorem State.setTrip_port (s : State) (u : UnitNo) (r : TripRec) (k : Port) :
    (s.setTrip u r).port k = s.port k := rfl
@[simp] theorem State.setTrip_unit (s : State) (u : UnitNo) (r : TripRec) (v : UnitNo) :
    (s.setTrip u r).unit v = s.unit v := rfl
@[simp] theorem State.setTrip_seq (s : State) (u : UnitNo) (r : TripRec) (j : Leg) :
    (s.setTrip u r).seq j = s.seq j := rfl
@[simp] theorem State.setTrip_stage (s : State) (u : UnitNo) (r : TripRec) (j : Leg) :
    (s.setTrip u r).stage j = s.stage j := rfl
@[simp] theorem State.setTrip_sense (s : State) (u : UnitNo) (r : TripRec) (j : SenseNo) :
    (s.setTrip u r).sense j = s.sense j := rfl
@[simp] theorem State.setTrip_board (s : State) (u : UnitNo) (r : TripRec) :
    (s.setTrip u r).board = s.board := rfl
@[simp] theorem State.setTrip_legEntry (s : State) (u : UnitNo) (r : TripRec) (j : Leg) :
    (s.setTrip u r).legEntry j = s.legEntry j := rfl
@[simp] theorem State.setTrip_unitEntry (s : State) (u : UnitNo) (r : TripRec) (v : UnitNo) :
    (s.setTrip u r).unitEntry v = s.unitEntry v := rfl
@[simp] theorem State.setTrip_senseEntry (s : State) (u : UnitNo) (r : TripRec) (j : SenseNo) :
    (s.setTrip u r).senseEntry j = s.senseEntry j := rfl
@[simp] theorem State.setTrip_unitOf (s : State) (u : UnitNo) (r : TripRec) (j : Leg) :
    (s.setTrip u r).unitOf j = s.unitOf j := rfl
@[simp] theorem State.setTrip_present (s : State) (u : UnitNo) (r : TripRec) (v : UnitNo) :
    (s.setTrip u r).present v = s.present v := rfl

/-! ### `State.setBoard` -/

@[simp] theorem State.setBoard_pending (s : State) (b : Board) :
    (s.setBoard b).pending = s.pending := rfl
@[simp] theorem State.setBoard_ports (s : State) (b : Board) :
    (s.setBoard b).ports = s.ports := rfl
@[simp] theorem State.setBoard_cause (s : State) (b : Board) :
    (s.setBoard b).cause = s.cause := rfl
@[simp] theorem State.setBoard_setup (s : State) (b : Board) :
    (s.setBoard b).setup = { s.setup with board := b } := rfl
@[simp] theorem State.setBoard_units (s : State) (b : Board) :
    (s.setBoard b).units = s.units := rfl
@[simp] theorem State.setBoard_seqs (s : State) (b : Board) :
    (s.setBoard b).seqs = s.seqs := rfl
@[simp] theorem State.setBoard_stages (s : State) (b : Board) :
    (s.setBoard b).stages = s.stages := rfl
@[simp] theorem State.setBoard_senses (s : State) (b : Board) :
    (s.setBoard b).senses = s.senses := rfl
@[simp] theorem State.setBoard_trips (s : State) (b : Board) :
    (s.setBoard b).trips = s.trips := rfl
@[simp] theorem State.setBoard_faultN (s : State) (b : Board) :
    (s.setBoard b).faultN = s.faultN := rfl
@[simp] theorem State.setBoard_supply (s : State) (b : Board) :
    (s.setBoard b).supply = s.supply := rfl
@[simp] theorem State.setBoard_time (s : State) (b : Board) :
    (s.setBoard b).time = s.time := rfl
@[simp] theorem State.setBoard_port (s : State) (b : Board) (k : Port) :
    (s.setBoard b).port k = s.port k := rfl
@[simp] theorem State.setBoard_unit (s : State) (b : Board) (v : UnitNo) :
    (s.setBoard b).unit v = s.unit v := rfl
@[simp] theorem State.setBoard_seq (s : State) (b : Board) (j : Leg) :
    (s.setBoard b).seq j = s.seq j := rfl
@[simp] theorem State.setBoard_stage (s : State) (b : Board) (j : Leg) :
    (s.setBoard b).stage j = s.stage j := rfl
@[simp] theorem State.setBoard_trip (s : State) (b : Board) (v : UnitNo) :
    (s.setBoard b).trip v = s.trip v := rfl
@[simp] theorem State.setBoard_sense (s : State) (b : Board) (j : SenseNo) :
    (s.setBoard b).sense j = s.sense j := rfl
@[simp] theorem State.setBoard_tripped (s : State) (b : Board) (v : UnitNo) :
    (s.setBoard b).tripped v = s.tripped v := rfl
@[simp] theorem State.setBoard_board (s : State) (b : Board) :
    (s.setBoard b).board = b := rfl

/-! ### `State.setLock` -/

@[simp] theorem State.setLock_pending (s : State) (h : Option Port) (ms : Nat) :
    (s.setLock h ms).pending = s.pending := rfl
@[simp] theorem State.setLock_ports (s : State) (h : Option Port) (ms : Nat) :
    (s.setLock h ms).ports = s.ports := rfl
@[simp] theorem State.setLock_cause (s : State) (h : Option Port) (ms : Nat) :
    (s.setLock h ms).cause = s.cause := rfl
@[simp] theorem State.setLock_setup (s : State) (h : Option Port) (ms : Nat) :
    (s.setLock h ms).setup = { s.setup with holder := h, inactivity := ms } := rfl
@[simp] theorem State.setLock_units (s : State) (h : Option Port) (ms : Nat) :
    (s.setLock h ms).units = s.units := rfl
@[simp] theorem State.setLock_seqs (s : State) (h : Option Port) (ms : Nat) :
    (s.setLock h ms).seqs = s.seqs := rfl
@[simp] theorem State.setLock_stages (s : State) (h : Option Port) (ms : Nat) :
    (s.setLock h ms).stages = s.stages := rfl
@[simp] theorem State.setLock_senses (s : State) (h : Option Port) (ms : Nat) :
    (s.setLock h ms).senses = s.senses := rfl
@[simp] theorem State.setLock_trips (s : State) (h : Option Port) (ms : Nat) :
    (s.setLock h ms).trips = s.trips := rfl
@[simp] theorem State.setLock_faultN (s : State) (h : Option Port) (ms : Nat) :
    (s.setLock h ms).faultN = s.faultN := rfl
@[simp] theorem State.setLock_supply (s : State) (h : Option Port) (ms : Nat) :
    (s.setLock h ms).supply = s.supply := rfl
@[simp] theorem State.setLock_time (s : State) (h : Option Port) (ms : Nat) :
    (s.setLock h ms).time = s.time := rfl
@[simp] theorem State.setLock_port (s : State) (h : Option Port) (ms : Nat) (k : Port) :
    (s.setLock h ms).port k = s.port k := rfl
@[simp] theorem State.setLock_unit (s : State) (h : Option Port) (ms : Nat) (v : UnitNo) :
    (s.setLock h ms).unit v = s.unit v := rfl
@[simp] theorem State.setLock_seq (s : State) (h : Option Port) (ms : Nat) (j : Leg) :
    (s.setLock h ms).seq j = s.seq j := rfl
@[simp] theorem State.setLock_stage (s : State) (h : Option Port) (ms : Nat) (j : Leg) :
    (s.setLock h ms).stage j = s.stage j := rfl
@[simp] theorem State.setLock_trip (s : State) (h : Option Port) (ms : Nat) (v : UnitNo) :
    (s.setLock h ms).trip v = s.trip v := rfl
@[simp] theorem State.setLock_sense (s : State) (h : Option Port) (ms : Nat) (j : SenseNo) :
    (s.setLock h ms).sense j = s.sense j := rfl
@[simp] theorem State.setLock_board (s : State) (h : Option Port) (ms : Nat) :
    (s.setLock h ms).board = s.board := rfl
@[simp] theorem State.setLock_legEntry (s : State) (h : Option Port) (ms : Nat) (j : Leg) :
    (s.setLock h ms).legEntry j = s.legEntry j := rfl
@[simp] theorem State.setLock_unitEntry (s : State) (h : Option Port) (ms : Nat) (v : UnitNo) :
    (s.setLock h ms).unitEntry v = s.unitEntry v := rfl
@[simp] theorem State.setLock_senseEntry (s : State) (h : Option Port) (ms : Nat) (j : SenseNo) :
    (s.setLock h ms).senseEntry j = s.senseEntry j := rfl
@[simp] theorem State.setLock_unitOf (s : State) (h : Option Port) (ms : Nat) (j : Leg) :
    (s.setLock h ms).unitOf j = s.unitOf j := rfl
@[simp] theorem State.setLock_present (s : State) (h : Option Port) (ms : Nat) (v : UnitNo) :
    (s.setLock h ms).present v = s.present v := rfl
@[simp] theorem State.setLock_tripped (s : State) (h : Option Port) (ms : Nat) (v : UnitNo) :
    (s.setLock h ms).tripped v = s.tripped v := rfl

/-! ### `State.setStages` -/

@[simp] theorem State.setStages_pending (s : State) (t : Four Stage) :
    (s.setStages t).pending = s.pending := rfl
@[simp] theorem State.setStages_ports (s : State) (t : Four Stage) :
    (s.setStages t).ports = s.ports := rfl
@[simp] theorem State.setStages_cause (s : State) (t : Four Stage) :
    (s.setStages t).cause = s.cause := rfl
@[simp] theorem State.setStages_setup (s : State) (t : Four Stage) :
    (s.setStages t).setup = s.setup := rfl
@[simp] theorem State.setStages_units (s : State) (t : Four Stage) :
    (s.setStages t).units = s.units := rfl
@[simp] theorem State.setStages_seqs (s : State) (t : Four Stage) :
    (s.setStages t).seqs = s.seqs := rfl
@[simp] theorem State.setStages_stages (s : State) (t : Four Stage) :
    (s.setStages t).stages = t := rfl
@[simp] theorem State.setStages_senses (s : State) (t : Four Stage) :
    (s.setStages t).senses = s.senses := rfl
@[simp] theorem State.setStages_trips (s : State) (t : Four Stage) :
    (s.setStages t).trips = s.trips := rfl
@[simp] theorem State.setStages_faultN (s : State) (t : Four Stage) :
    (s.setStages t).faultN = s.faultN := rfl
@[simp] theorem State.setStages_supply (s : State) (t : Four Stage) :
    (s.setStages t).supply = s.supply := rfl
@[simp] theorem State.setStages_time (s : State) (t : Four Stage) :
    (s.setStages t).time = s.time := rfl
@[simp] theorem State.setStages_port (s : State) (t : Four Stage) (k : Port) :
    (s.setStages t).port k = s.port k := rfl
@[simp] theorem State.setStages_unit (s : State) (t : Four Stage) (v : UnitNo) :
    (s.setStages t).unit v = s.unit v := rfl
@[simp] theorem State.setStages_seq (s : State) (t : Four Stage) (j : Leg) :
    (s.setStages t).seq j = s.seq j := rfl
@[simp] theorem State.setStages_trip (s : State) (t : Four Stage) (v : UnitNo) :
    (s.setStages t).trip v = s.trip v := rfl
@[simp] theorem State.setStages_sense (s : State) (t : Four Stage) (j : SenseNo) :
    (s.setStages t).sense j = s.sense j := rfl
@[simp] theorem State.setStages_board (s : State) (t : Four Stage) :
    (s.setStages t).board = s.board := rfl
@[simp] theorem State.setStages_legEntry (s : State) (t : Four Stage) (j : Leg) :
    (s.setStages t).legEntry j = s.legEntry j := rfl
@[simp] theorem State.setStages_unitEntry (s : State) (t : Four Stage) (v : UnitNo) :
    (s.setStages t).unitEntry v = s.unitEntry v := rfl
@[simp] theorem State.setStages_senseEntry (s : State) (t : Four Stage) (j : SenseNo) :
    (s.setStages t).senseEntry j = s.senseEntry j := rfl
@[simp] theorem State.setStages_unitOf (s : State) (t : Four Stage) (j : Leg) :
    (s.setStages t).unitOf j = s.unitOf j := rfl
@[simp] theorem State.setStages_present (s : State) (t : Four Stage) (v : UnitNo) :
    (s.setStages t).present v = s.present v := rfl
@[simp] theorem State.setStages_tripped (s : State) (t : Four Stage) (v : UnitNo) :
    (s.setStages t).tripped v = s.tripped v := rfl

/-! ### `State.setSeqs` -/

@[simp] theorem State.setSeqs_pending (s : State) (t : Four LegSeq) :
    (s.setSeqs t).pending = s.pending := rfl
@[simp] theorem State.setSeqs_ports (s : State) (t : Four LegSeq) :
    (s.setSeqs t).ports = s.ports := rfl
@[simp] theorem State.setSeqs_cause (s : State) (t : Four LegSeq) :
    (s.setSeqs t).cause = s.cause := rfl
@[simp] theorem State.setSeqs_setup (s : State) (t : Four LegSeq) :
    (s.setSeqs t).setup = s.setup := rfl
@[simp] theorem State.setSeqs_units (s : State) (t : Four LegSeq) :
    (s.setSeqs t).units = s.units := rfl
@[simp] theorem State.setSeqs_seqs (s : State) (t : Four LegSeq) :
    (s.setSeqs t).seqs = t := rfl
@[simp] theorem State.setSeqs_stages (s : State) (t : Four LegSeq) :
    (s.setSeqs t).stages = s.stages := rfl
@[simp] theorem State.setSeqs_senses (s : State) (t : Four LegSeq) :
    (s.setSeqs t).senses = s.senses := rfl
@[simp] theorem State.setSeqs_trips (s : State) (t : Four LegSeq) :
    (s.setSeqs t).trips = s.trips := rfl
@[simp] theorem State.setSeqs_faultN (s : State) (t : Four LegSeq) :
    (s.setSeqs t).faultN = s.faultN := rfl
@[simp] theorem State.setSeqs_supply (s : State) (t : Four LegSeq) :
    (s.setSeqs t).supply = s.supply := rfl
@[simp] theorem State.setSeqs_time (s : State) (t : Four LegSeq) :
    (s.setSeqs t).time = s.time := rfl
@[simp] theorem State.setSeqs_port (s : State) (t : Four LegSeq) (k : Port) :
    (s.setSeqs t).port k = s.port k := rfl
@[simp] theorem State.setSeqs_unit (s : State) (t : Four LegSeq) (v : UnitNo) :
    (s.setSeqs t).unit v = s.unit v := rfl
@[simp] theorem State.setSeqs_stage (s : State) (t : Four LegSeq) (j : Leg) :
    (s.setSeqs t).stage j = s.stage j := rfl
@[simp] theorem State.setSeqs_trip (s : State) (t : Four LegSeq) (v : UnitNo) :
    (s.setSeqs t).trip v = s.trip v := rfl
@[simp] theorem State.setSeqs_sense (s : State) (t : Four LegSeq) (j : SenseNo) :
    (s.setSeqs t).sense j = s.sense j := rfl
@[simp] theorem State.setSeqs_board (s : State) (t : Four LegSeq) :
    (s.setSeqs t).board = s.board := rfl
@[simp] theorem State.setSeqs_legEntry (s : State) (t : Four LegSeq) (j : Leg) :
    (s.setSeqs t).legEntry j = s.legEntry j := rfl
@[simp] theorem State.setSeqs_unitEntry (s : State) (t : Four LegSeq) (v : UnitNo) :
    (s.setSeqs t).unitEntry v = s.unitEntry v := rfl
@[simp] theorem State.setSeqs_senseEntry (s : State) (t : Four LegSeq) (j : SenseNo) :
    (s.setSeqs t).senseEntry j = s.senseEntry j := rfl
@[simp] theorem State.setSeqs_unitOf (s : State) (t : Four LegSeq) (j : Leg) :
    (s.setSeqs t).unitOf j = s.unitOf j := rfl
@[simp] theorem State.setSeqs_present (s : State) (t : Four LegSeq) (v : UnitNo) :
    (s.setSeqs t).present v = s.present v := rfl
@[simp] theorem State.setSeqs_tripped (s : State) (t : Four LegSeq) (v : UnitNo) :
    (s.setSeqs t).tripped v = s.tripped v := rfl

/-! ### `State.setUnits` -/

@[simp] theorem State.setUnits_pending (s : State) (t : Four UnitRec) :
    (s.setUnits t).pending = s.pending := rfl
@[simp] theorem State.setUnits_ports (s : State) (t : Four UnitRec) :
    (s.setUnits t).ports = s.ports := rfl
@[simp] theorem State.setUnits_cause (s : State) (t : Four UnitRec) :
    (s.setUnits t).cause = s.cause := rfl
@[simp] theorem State.setUnits_setup (s : State) (t : Four UnitRec) :
    (s.setUnits t).setup = s.setup := rfl
@[simp] theorem State.setUnits_units (s : State) (t : Four UnitRec) :
    (s.setUnits t).units = t := rfl
@[simp] theorem State.setUnits_seqs (s : State) (t : Four UnitRec) :
    (s.setUnits t).seqs = s.seqs := rfl
@[simp] theorem State.setUnits_stages (s : State) (t : Four UnitRec) :
    (s.setUnits t).stages = s.stages := rfl
@[simp] theorem State.setUnits_senses (s : State) (t : Four UnitRec) :
    (s.setUnits t).senses = s.senses := rfl
@[simp] theorem State.setUnits_trips (s : State) (t : Four UnitRec) :
    (s.setUnits t).trips = s.trips := rfl
@[simp] theorem State.setUnits_faultN (s : State) (t : Four UnitRec) :
    (s.setUnits t).faultN = s.faultN := rfl
@[simp] theorem State.setUnits_supply (s : State) (t : Four UnitRec) :
    (s.setUnits t).supply = s.supply := rfl
@[simp] theorem State.setUnits_time (s : State) (t : Four UnitRec) :
    (s.setUnits t).time = s.time := rfl
@[simp] theorem State.setUnits_port (s : State) (t : Four UnitRec) (k : Port) :
    (s.setUnits t).port k = s.port k := rfl
@[simp] theorem State.setUnits_seq (s : State) (t : Four UnitRec) (j : Leg) :
    (s.setUnits t).seq j = s.seq j := rfl
@[simp] theorem State.setUnits_stage (s : State) (t : Four UnitRec) (j : Leg) :
    (s.setUnits t).stage j = s.stage j := rfl
@[simp] theorem State.setUnits_trip (s : State) (t : Four UnitRec) (v : UnitNo) :
    (s.setUnits t).trip v = s.trip v := rfl
@[simp] theorem State.setUnits_sense (s : State) (t : Four UnitRec) (j : SenseNo) :
    (s.setUnits t).sense j = s.sense j := rfl
@[simp] theorem State.setUnits_board (s : State) (t : Four UnitRec) :
    (s.setUnits t).board = s.board := rfl
@[simp] theorem State.setUnits_legEntry (s : State) (t : Four UnitRec) (j : Leg) :
    (s.setUnits t).legEntry j = s.legEntry j := rfl
@[simp] theorem State.setUnits_unitEntry (s : State) (t : Four UnitRec) (v : UnitNo) :
    (s.setUnits t).unitEntry v = s.unitEntry v := rfl
@[simp] theorem State.setUnits_senseEntry (s : State) (t : Four UnitRec) (j : SenseNo) :
    (s.setUnits t).senseEntry j = s.senseEntry j := rfl
@[simp] theorem State.setUnits_unitOf (s : State) (t : Four UnitRec) (j : Leg) :
    (s.setUnits t).unitOf j = s.unitOf j := rfl
@[simp] theorem State.setUnits_present (s : State) (t : Four UnitRec) (v : UnitNo) :
    (s.setUnits t).present v = s.present v := rfl
@[simp] theorem State.setUnits_tripped (s : State) (t : Four UnitRec) (v : UnitNo) :
    (s.setUnits t).tripped v = s.tripped v := rfl

/-! ### `State.setSupplyRec` -/

@[simp] theorem State.setSupplyRec_pending (s : State) (v : Supply) :
    (s.setSupplyRec v).pending = s.pending := rfl
@[simp] theorem State.setSupplyRec_ports (s : State) (v : Supply) :
    (s.setSupplyRec v).ports = s.ports := rfl
@[simp] theorem State.setSupplyRec_cause (s : State) (v : Supply) :
    (s.setSupplyRec v).cause = s.cause := rfl
@[simp] theorem State.setSupplyRec_setup (s : State) (v : Supply) :
    (s.setSupplyRec v).setup = s.setup := rfl
@[simp] theorem State.setSupplyRec_units (s : State) (v : Supply) :
    (s.setSupplyRec v).units = s.units := rfl
@[simp] theorem State.setSupplyRec_seqs (s : State) (v : Supply) :
    (s.setSupplyRec v).seqs = s.seqs := rfl
@[simp] theorem State.setSupplyRec_stages (s : State) (v : Supply) :
    (s.setSupplyRec v).stages = s.stages := rfl
@[simp] theorem State.setSupplyRec_senses (s : State) (v : Supply) :
    (s.setSupplyRec v).senses = s.senses := rfl
@[simp] theorem State.setSupplyRec_trips (s : State) (v : Supply) :
    (s.setSupplyRec v).trips = s.trips := rfl
@[simp] theorem State.setSupplyRec_faultN (s : State) (v : Supply) :
    (s.setSupplyRec v).faultN = s.faultN := rfl
@[simp] theorem State.setSupplyRec_supply (s : State) (v : Supply) :
    (s.setSupplyRec v).supply = v := rfl
@[simp] theorem State.setSupplyRec_time (s : State) (v : Supply) :
    (s.setSupplyRec v).time = s.time := rfl
@[simp] theorem State.setSupplyRec_port (s : State) (v : Supply) (k : Port) :
    (s.setSupplyRec v).port k = s.port k := rfl
@[simp] theorem State.setSupplyRec_unit (s : State) (v : Supply) (w : UnitNo) :
    (s.setSupplyRec v).unit w = s.unit w := rfl
@[simp] theorem State.setSupplyRec_seq (s : State) (v : Supply) (j : Leg) :
    (s.setSupplyRec v).seq j = s.seq j := rfl
@[simp] theorem State.setSupplyRec_stage (s : State) (v : Supply) (j : Leg) :
    (s.setSupplyRec v).stage j = s.stage j := rfl
@[simp] theorem State.setSupplyRec_trip (s : State) (v : Supply) (w : UnitNo) :
    (s.setSupplyRec v).trip w = s.trip w := rfl
@[simp] theorem State.setSupplyRec_sense (s : State) (v : Supply) (j : SenseNo) :
    (s.setSupplyRec v).sense j = s.sense j := rfl
@[simp] theorem State.setSupplyRec_board (s : State) (v : Supply) :
    (s.setSupplyRec v).board = s.board := rfl
@[simp] theorem State.setSupplyRec_legEntry (s : State) (v : Supply) (j : Leg) :
    (s.setSupplyRec v).legEntry j = s.legEntry j := rfl
@[simp] theorem State.setSupplyRec_unitEntry (s : State) (v : Supply) (w : UnitNo) :
    (s.setSupplyRec v).unitEntry w = s.unitEntry w := rfl
@[simp] theorem State.setSupplyRec_senseEntry (s : State) (v : Supply) (j : SenseNo) :
    (s.setSupplyRec v).senseEntry j = s.senseEntry j := rfl
@[simp] theorem State.setSupplyRec_unitOf (s : State) (v : Supply) (j : Leg) :
    (s.setSupplyRec v).unitOf j = s.unitOf j := rfl
@[simp] theorem State.setSupplyRec_present (s : State) (v : Supply) (w : UnitNo) :
    (s.setSupplyRec v).present w = s.present w := rfl
@[simp] theorem State.setSupplyRec_tripped (s : State) (v : Supply) (w : UnitNo) :
    (s.setSupplyRec v).tripped w = s.tripped w := rfl

/-! ### `State.setTime` -/

@[simp] theorem State.setTime_pending (s : State) (t : Timebase) :
    (s.setTime t).pending = s.pending := rfl
@[simp] theorem State.setTime_ports (s : State) (t : Timebase) :
    (s.setTime t).ports = s.ports := rfl
@[simp] theorem State.setTime_cause (s : State) (t : Timebase) :
    (s.setTime t).cause = s.cause := rfl
@[simp] theorem State.setTime_setup (s : State) (t : Timebase) :
    (s.setTime t).setup = s.setup := rfl
@[simp] theorem State.setTime_units (s : State) (t : Timebase) :
    (s.setTime t).units = s.units := rfl
@[simp] theorem State.setTime_seqs (s : State) (t : Timebase) :
    (s.setTime t).seqs = s.seqs := rfl
@[simp] theorem State.setTime_stages (s : State) (t : Timebase) :
    (s.setTime t).stages = s.stages := rfl
@[simp] theorem State.setTime_senses (s : State) (t : Timebase) :
    (s.setTime t).senses = s.senses := rfl
@[simp] theorem State.setTime_trips (s : State) (t : Timebase) :
    (s.setTime t).trips = s.trips := rfl
@[simp] theorem State.setTime_faultN (s : State) (t : Timebase) :
    (s.setTime t).faultN = s.faultN := rfl
@[simp] theorem State.setTime_supply (s : State) (t : Timebase) :
    (s.setTime t).supply = s.supply := rfl
@[simp] theorem State.setTime_time (s : State) (t : Timebase) :
    (s.setTime t).time = t := rfl
@[simp] theorem State.setTime_port (s : State) (t : Timebase) (k : Port) :
    (s.setTime t).port k = s.port k := rfl
@[simp] theorem State.setTime_unit (s : State) (t : Timebase) (v : UnitNo) :
    (s.setTime t).unit v = s.unit v := rfl
@[simp] theorem State.setTime_seq (s : State) (t : Timebase) (j : Leg) :
    (s.setTime t).seq j = s.seq j := rfl
@[simp] theorem State.setTime_stage (s : State) (t : Timebase) (j : Leg) :
    (s.setTime t).stage j = s.stage j := rfl
@[simp] theorem State.setTime_trip (s : State) (t : Timebase) (v : UnitNo) :
    (s.setTime t).trip v = s.trip v := rfl
@[simp] theorem State.setTime_sense (s : State) (t : Timebase) (j : SenseNo) :
    (s.setTime t).sense j = s.sense j := rfl
@[simp] theorem State.setTime_board (s : State) (t : Timebase) :
    (s.setTime t).board = s.board := rfl
@[simp] theorem State.setTime_legEntry (s : State) (t : Timebase) (j : Leg) :
    (s.setTime t).legEntry j = s.legEntry j := rfl
@[simp] theorem State.setTime_unitEntry (s : State) (t : Timebase) (v : UnitNo) :
    (s.setTime t).unitEntry v = s.unitEntry v := rfl
@[simp] theorem State.setTime_senseEntry (s : State) (t : Timebase) (j : SenseNo) :
    (s.setTime t).senseEntry j = s.senseEntry j := rfl
@[simp] theorem State.setTime_unitOf (s : State) (t : Timebase) (j : Leg) :
    (s.setTime t).unitOf j = s.unitOf j := rfl
@[simp] theorem State.setTime_present (s : State) (t : Timebase) (v : UnitNo) :
    (s.setTime t).present v = s.present v := rfl
@[simp] theorem State.setTime_tripped (s : State) (t : Timebase) (v : UnitNo) :
    (s.setTime t).tripped v = s.tripped v := rfl

/-! ### An entry after its own write -/

@[simp] theorem State.setPort_port_same (s : State) (i : Port) (x : PortRec) :
    (s.setPort i x).port i = x := Four.get_set_same _ _ _
theorem State.setPort_port_ne (s : State) (i j : Port) (x : PortRec) (h : j ≠ i) :
    (s.setPort i x).port j = s.port j := Four.get_set_ne _ _ _ _ h
theorem State.setPort_port (s : State) (i j : Port) (x : PortRec) :
    (s.setPort i x).port j = if j = i then x else s.port j := Four.get_set _ _ _ _
@[simp] theorem State.setPort_setPort (s : State) (i : Port) (x y : PortRec) :
    (s.setPort i x).setPort i y = s.setPort i y := by simp [State.setPort]
@[simp] theorem State.setPort_port_self (s : State) (i : Port) : s.setPort i (s.port i) = s := by
  simp [State.setPort, State.port]
@[simp] theorem State.setUnit_unit_same (s : State) (i : UnitNo) (x : UnitRec) :
    (s.setUnit i x).unit i = x := Four.get_set_same _ _ _
theorem State.setUnit_unit_ne (s : State) (i j : UnitNo) (x : UnitRec) (h : j ≠ i) :
    (s.setUnit i x).unit j = s.unit j := Four.get_set_ne _ _ _ _ h
theorem State.setUnit_unit (s : State) (i j : UnitNo) (x : UnitRec) :
    (s.setUnit i x).unit j = if j = i then x else s.unit j := Four.get_set _ _ _ _
@[simp] theorem State.setUnit_setUnit (s : State) (i : UnitNo) (x y : UnitRec) :
    (s.setUnit i x).setUnit i y = s.setUnit i y := by simp [State.setUnit]
@[simp] theorem State.setUnit_unit_self (s : State) (i : UnitNo) : s.setUnit i (s.unit i) = s := by
  simp [State.setUnit, State.unit]
@[simp] theorem State.setSeq_seq_same (s : State) (i : Leg) (x : LegSeq) :
    (s.setSeq i x).seq i = x := Four.get_set_same _ _ _
theorem State.setSeq_seq_ne (s : State) (i j : Leg) (x : LegSeq) (h : j ≠ i) :
    (s.setSeq i x).seq j = s.seq j := Four.get_set_ne _ _ _ _ h
theorem State.setSeq_seq (s : State) (i j : Leg) (x : LegSeq) :
    (s.setSeq i x).seq j = if j = i then x else s.seq j := Four.get_set _ _ _ _
@[simp] theorem State.setSeq_setSeq (s : State) (i : Leg) (x y : LegSeq) :
    (s.setSeq i x).setSeq i y = s.setSeq i y := by simp [State.setSeq]
@[simp] theorem State.setSeq_seq_self (s : State) (i : Leg) : s.setSeq i (s.seq i) = s := by
  simp [State.setSeq, State.seq]
@[simp] theorem State.setStage_stage_same (s : State) (i : Leg) (x : Stage) :
    (s.setStage i x).stage i = x := Four.get_set_same _ _ _
theorem State.setStage_stage_ne (s : State) (i j : Leg) (x : Stage) (h : j ≠ i) :
    (s.setStage i x).stage j = s.stage j := Four.get_set_ne _ _ _ _ h
theorem State.setStage_stage (s : State) (i j : Leg) (x : Stage) :
    (s.setStage i x).stage j = if j = i then x else s.stage j := Four.get_set _ _ _ _
@[simp] theorem State.setStage_setStage (s : State) (i : Leg) (x y : Stage) :
    (s.setStage i x).setStage i y = s.setStage i y := by simp [State.setStage]
@[simp] theorem State.setStage_stage_self (s : State) (i : Leg) : s.setStage i (s.stage i) = s := by
  simp [State.setStage, State.stage]
@[simp] theorem State.setTrip_trip_same (s : State) (i : UnitNo) (x : TripRec) :
    (s.setTrip i x).trip i = x := Four.get_set_same _ _ _
theorem State.setTrip_trip_ne (s : State) (i j : UnitNo) (x : TripRec) (h : j ≠ i) :
    (s.setTrip i x).trip j = s.trip j := Four.get_set_ne _ _ _ _ h
theorem State.setTrip_trip (s : State) (i j : UnitNo) (x : TripRec) :
    (s.setTrip i x).trip j = if j = i then x else s.trip j := Four.get_set _ _ _ _
@[simp] theorem State.setTrip_setTrip (s : State) (i : UnitNo) (x y : TripRec) :
    (s.setTrip i x).setTrip i y = s.setTrip i y := by simp [State.setTrip]
@[simp] theorem State.setTrip_trip_self (s : State) (i : UnitNo) : s.setTrip i (s.trip i) = s := by
  simp [State.setTrip, State.trip]
@[simp] theorem State.setSenseRec_sense_same (s : State) (n : SenseNo) (r : SenseRec) :
    (s.setSenseRec n r).sense n = r := Eight.get_set_same _ _ _
theorem State.setSenseRec_sense (s : State) (n m : SenseNo) (r : SenseRec) :
    (s.setSenseRec n r).sense m = if m = n then r else s.sense m := Eight.get_set _ _ _ _
@[simp] theorem State.setTrip_tripped_same (s : State) (u : UnitNo) (r : TripRec) :
    (s.setTrip u r).tripped u = r.tripped := by simp [State.tripped]

end Machine

end Sys2Proof
end

