-- ==== Sys2Proof/Laws/Frames.lean ====
section
/-! SUPPORT. The frame of every shared operation: the records it leaves unchanged. -/

namespace Sys2Proof.Machine

/-! `State.place` writes ports only. -/

@[simp] theorem State.place_pending (s : State) (p : Port) (e : Entry) :
    (s.place p e).pending = s.pending := by
  unfold State.place; simp
@[simp] theorem State.place_cause (s : State) (p : Port) (e : Entry) :
    (s.place p e).cause = s.cause := by
  unfold State.place; simp
@[simp] theorem State.place_setup (s : State) (p : Port) (e : Entry) :
    (s.place p e).setup = s.setup := by
  unfold State.place; simp
@[simp] theorem State.place_units (s : State) (p : Port) (e : Entry) :
    (s.place p e).units = s.units := by
  unfold State.place; simp
@[simp] theorem State.place_seqs (s : State) (p : Port) (e : Entry) :
    (s.place p e).seqs = s.seqs := by
  unfold State.place; simp
@[simp] theorem State.place_stages (s : State) (p : Port) (e : Entry) :
    (s.place p e).stages = s.stages := by
  unfold State.place; simp
@[simp] theorem State.place_senses (s : State) (p : Port) (e : Entry) :
    (s.place p e).senses = s.senses := by
  unfold State.place; simp
@[simp] theorem State.place_trips (s : State) (p : Port) (e : Entry) :
    (s.place p e).trips = s.trips := by
  unfold State.place; simp
@[simp] theorem State.place_faultN (s : State) (p : Port) (e : Entry) :
    (s.place p e).faultN = s.faultN := by
  unfold State.place; simp
@[simp] theorem State.place_supply (s : State) (p : Port) (e : Entry) :
    (s.place p e).supply = s.supply := by
  unfold State.place; simp
@[simp] theorem State.place_time (s : State) (p : Port) (e : Entry) :
    (s.place p e).time = s.time := by
  unfold State.place; simp

/-! `State.notify` writes ports only. -/

@[simp] theorem State.notify_pending (s : State) (p : Port) (n : Notice) :
    (s.notify p n).pending = s.pending := by
  unfold State.notify; simp
@[simp] theorem State.notify_cause (s : State) (p : Port) (n : Notice) :
    (s.notify p n).cause = s.cause := by
  unfold State.notify; simp
@[simp] theorem State.notify_setup (s : State) (p : Port) (n : Notice) :
    (s.notify p n).setup = s.setup := by
  unfold State.notify; simp
@[simp] theorem State.notify_units (s : State) (p : Port) (n : Notice) :
    (s.notify p n).units = s.units := by
  unfold State.notify; simp
@[simp] theorem State.notify_seqs (s : State) (p : Port) (n : Notice) :
    (s.notify p n).seqs = s.seqs := by
  unfold State.notify; simp
@[simp] theorem State.notify_stages (s : State) (p : Port) (n : Notice) :
    (s.notify p n).stages = s.stages := by
  unfold State.notify; simp
@[simp] theorem State.notify_senses (s : State) (p : Port) (n : Notice) :
    (s.notify p n).senses = s.senses := by
  unfold State.notify; simp
@[simp] theorem State.notify_trips (s : State) (p : Port) (n : Notice) :
    (s.notify p n).trips = s.trips := by
  unfold State.notify; simp
@[simp] theorem State.notify_faultN (s : State) (p : Port) (n : Notice) :
    (s.notify p n).faultN = s.faultN := by
  unfold State.notify; simp
@[simp] theorem State.notify_supply (s : State) (p : Port) (n : Notice) :
    (s.notify p n).supply = s.supply := by
  unfold State.notify; simp
@[simp] theorem State.notify_time (s : State) (p : Port) (n : Notice) :
    (s.notify p n).time = s.time := by
  unfold State.notify; simp

/-! `State.notifyOpt` writes ports only. -/

@[simp] theorem State.notifyOpt_pending (s : State) (p : Option Port) (n : Notice) :
    (s.notifyOpt p n).pending = s.pending := by
  unfold State.notifyOpt; split <;> simp
@[simp] theorem State.notifyOpt_cause (s : State) (p : Option Port) (n : Notice) :
    (s.notifyOpt p n).cause = s.cause := by
  unfold State.notifyOpt; split <;> simp
@[simp] theorem State.notifyOpt_setup (s : State) (p : Option Port) (n : Notice) :
    (s.notifyOpt p n).setup = s.setup := by
  unfold State.notifyOpt; split <;> simp
@[simp] theorem State.notifyOpt_units (s : State) (p : Option Port) (n : Notice) :
    (s.notifyOpt p n).units = s.units := by
  unfold State.notifyOpt; split <;> simp
@[simp] theorem State.notifyOpt_seqs (s : State) (p : Option Port) (n : Notice) :
    (s.notifyOpt p n).seqs = s.seqs := by
  unfold State.notifyOpt; split <;> simp
@[simp] theorem State.notifyOpt_stages (s : State) (p : Option Port) (n : Notice) :
    (s.notifyOpt p n).stages = s.stages := by
  unfold State.notifyOpt; split <;> simp
@[simp] theorem State.notifyOpt_senses (s : State) (p : Option Port) (n : Notice) :
    (s.notifyOpt p n).senses = s.senses := by
  unfold State.notifyOpt; split <;> simp
@[simp] theorem State.notifyOpt_trips (s : State) (p : Option Port) (n : Notice) :
    (s.notifyOpt p n).trips = s.trips := by
  unfold State.notifyOpt; split <;> simp
@[simp] theorem State.notifyOpt_faultN (s : State) (p : Option Port) (n : Notice) :
    (s.notifyOpt p n).faultN = s.faultN := by
  unfold State.notifyOpt; split <;> simp
@[simp] theorem State.notifyOpt_supply (s : State) (p : Option Port) (n : Notice) :
    (s.notifyOpt p n).supply = s.supply := by
  unfold State.notifyOpt; split <;> simp
@[simp] theorem State.notifyOpt_time (s : State) (p : Option Port) (n : Notice) :
    (s.notifyOpt p n).time = s.time := by
  unfold State.notifyOpt; split <;> simp

/-! `State.notifyBoth` writes ports only. -/

@[simp] theorem State.notifyBoth_pending (s : State) (a b : Option Port) (n : Notice) :
    (s.notifyBoth a b n).pending = s.pending := by
  unfold State.notifyBoth; split <;> simp
@[simp] theorem State.notifyBoth_cause (s : State) (a b : Option Port) (n : Notice) :
    (s.notifyBoth a b n).cause = s.cause := by
  unfold State.notifyBoth; split <;> simp
@[simp] theorem State.notifyBoth_setup (s : State) (a b : Option Port) (n : Notice) :
    (s.notifyBoth a b n).setup = s.setup := by
  unfold State.notifyBoth; split <;> simp
@[simp] theorem State.notifyBoth_units (s : State) (a b : Option Port) (n : Notice) :
    (s.notifyBoth a b n).units = s.units := by
  unfold State.notifyBoth; split <;> simp
@[simp] theorem State.notifyBoth_seqs (s : State) (a b : Option Port) (n : Notice) :
    (s.notifyBoth a b n).seqs = s.seqs := by
  unfold State.notifyBoth; split <;> simp
@[simp] theorem State.notifyBoth_stages (s : State) (a b : Option Port) (n : Notice) :
    (s.notifyBoth a b n).stages = s.stages := by
  unfold State.notifyBoth; split <;> simp
@[simp] theorem State.notifyBoth_senses (s : State) (a b : Option Port) (n : Notice) :
    (s.notifyBoth a b n).senses = s.senses := by
  unfold State.notifyBoth; split <;> simp
@[simp] theorem State.notifyBoth_trips (s : State) (a b : Option Port) (n : Notice) :
    (s.notifyBoth a b n).trips = s.trips := by
  unfold State.notifyBoth; split <;> simp
@[simp] theorem State.notifyBoth_faultN (s : State) (a b : Option Port) (n : Notice) :
    (s.notifyBoth a b n).faultN = s.faultN := by
  unfold State.notifyBoth; split <;> simp
@[simp] theorem State.notifyBoth_supply (s : State) (a b : Option Port) (n : Notice) :
    (s.notifyBoth a b n).supply = s.supply := by
  unfold State.notifyBoth; split <;> simp
@[simp] theorem State.notifyBoth_time (s : State) (a b : Option Port) (n : Notice) :
    (s.notifyBoth a b n).time = s.time := by
  unfold State.notifyBoth; split <;> simp

/-! `State.broadcast` writes ports only. -/

@[simp] theorem State.broadcast_pending (s : State) (n : Notice) :
    (s.broadcast n).pending = s.pending := by
  simp [State.broadcast, four]
@[simp] theorem State.broadcast_cause (s : State) (n : Notice) :
    (s.broadcast n).cause = s.cause := by
  simp [State.broadcast, four]
@[simp] theorem State.broadcast_setup (s : State) (n : Notice) :
    (s.broadcast n).setup = s.setup := by
  simp [State.broadcast, four]
@[simp] theorem State.broadcast_units (s : State) (n : Notice) :
    (s.broadcast n).units = s.units := by
  simp [State.broadcast, four]
@[simp] theorem State.broadcast_seqs (s : State) (n : Notice) :
    (s.broadcast n).seqs = s.seqs := by
  simp [State.broadcast, four]
@[simp] theorem State.broadcast_stages (s : State) (n : Notice) :
    (s.broadcast n).stages = s.stages := by
  simp [State.broadcast, four]
@[simp] theorem State.broadcast_senses (s : State) (n : Notice) :
    (s.broadcast n).senses = s.senses := by
  simp [State.broadcast, four]
@[simp] theorem State.broadcast_trips (s : State) (n : Notice) :
    (s.broadcast n).trips = s.trips := by
  simp [State.broadcast, four]
@[simp] theorem State.broadcast_faultN (s : State) (n : Notice) :
    (s.broadcast n).faultN = s.faultN := by
  simp [State.broadcast, four]
@[simp] theorem State.broadcast_supply (s : State) (n : Notice) :
    (s.broadcast n).supply = s.supply := by
  simp [State.broadcast, four]
@[simp] theorem State.broadcast_time (s : State) (n : Notice) :
    (s.broadcast n).time = s.time := by
  simp [State.broadcast, four]

/-! `State.onStage` writes stages only. -/

@[simp] theorem State.onStage_pending (s : State) (l : Leg) (f : LegEntry → Bool → Stage → Stage) :
    (s.onStage l f).pending = s.pending := by
  unfold State.onStage; simp
@[simp] theorem State.onStage_ports (s : State) (l : Leg) (f : LegEntry → Bool → Stage → Stage) :
    (s.onStage l f).ports = s.ports := by
  unfold State.onStage; simp
@[simp] theorem State.onStage_cause (s : State) (l : Leg) (f : LegEntry → Bool → Stage → Stage) :
    (s.onStage l f).cause = s.cause := by
  unfold State.onStage; simp
@[simp] theorem State.onStage_setup (s : State) (l : Leg) (f : LegEntry → Bool → Stage → Stage) :
    (s.onStage l f).setup = s.setup := by
  unfold State.onStage; simp
@[simp] theorem State.onStage_units (s : State) (l : Leg) (f : LegEntry → Bool → Stage → Stage) :
    (s.onStage l f).units = s.units := by
  unfold State.onStage; simp
@[simp] theorem State.onStage_seqs (s : State) (l : Leg) (f : LegEntry → Bool → Stage → Stage) :
    (s.onStage l f).seqs = s.seqs := by
  unfold State.onStage; simp
@[simp] theorem State.onStage_senses (s : State) (l : Leg) (f : LegEntry → Bool → Stage → Stage) :
    (s.onStage l f).senses = s.senses := by
  unfold State.onStage; simp
@[simp] theorem State.onStage_trips (s : State) (l : Leg) (f : LegEntry → Bool → Stage → Stage) :
    (s.onStage l f).trips = s.trips := by
  unfold State.onStage; simp
@[simp] theorem State.onStage_faultN (s : State) (l : Leg) (f : LegEntry → Bool → Stage → Stage) :
    (s.onStage l f).faultN = s.faultN := by
  unfold State.onStage; simp
@[simp] theorem State.onStage_supply (s : State) (l : Leg) (f : LegEntry → Bool → Stage → Stage) :
    (s.onStage l f).supply = s.supply := by
  unfold State.onStage; simp
@[simp] theorem State.onStage_time (s : State) (l : Leg) (f : LegEntry → Bool → Stage → Stage) :
    (s.onStage l f).time = s.time := by
  unfold State.onStage; simp

/-! `State.onUnitStages` writes stages only. -/

@[simp] theorem State.onUnitStages_pending (s : State) (u : UnitNo) (f : LegEntry → Bool → Stage → Stage) :
    (s.onUnitStages u f).pending = s.pending := by
  unfold State.onUnitStages; simp
@[simp] theorem State.onUnitStages_ports (s : State) (u : UnitNo) (f : LegEntry → Bool → Stage → Stage) :
    (s.onUnitStages u f).ports = s.ports := by
  unfold State.onUnitStages; simp
@[simp] theorem State.onUnitStages_cause (s : State) (u : UnitNo) (f : LegEntry → Bool → Stage → Stage) :
    (s.onUnitStages u f).cause = s.cause := by
  unfold State.onUnitStages; simp
@[simp] theorem State.onUnitStages_setup (s : State) (u : UnitNo) (f : LegEntry → Bool → Stage → Stage) :
    (s.onUnitStages u f).setup = s.setup := by
  unfold State.onUnitStages; simp
@[simp] theorem State.onUnitStages_units (s : State) (u : UnitNo) (f : LegEntry → Bool → Stage → Stage) :
    (s.onUnitStages u f).units = s.units := by
  unfold State.onUnitStages; simp
@[simp] theorem State.onUnitStages_seqs (s : State) (u : UnitNo) (f : LegEntry → Bool → Stage → Stage) :
    (s.onUnitStages u f).seqs = s.seqs := by
  unfold State.onUnitStages; simp
@[simp] theorem State.onUnitStages_senses (s : State) (u : UnitNo) (f : LegEntry → Bool → Stage → Stage) :
    (s.onUnitStages u f).senses = s.senses := by
  unfold State.onUnitStages; simp
@[simp] theorem State.onUnitStages_trips (s : State) (u : UnitNo) (f : LegEntry → Bool → Stage → Stage) :
    (s.onUnitStages u f).trips = s.trips := by
  unfold State.onUnitStages; simp
@[simp] theorem State.onUnitStages_faultN (s : State) (u : UnitNo) (f : LegEntry → Bool → Stage → Stage) :
    (s.onUnitStages u f).faultN = s.faultN := by
  unfold State.onUnitStages; simp
@[simp] theorem State.onUnitStages_supply (s : State) (u : UnitNo) (f : LegEntry → Bool → Stage → Stage) :
    (s.onUnitStages u f).supply = s.supply := by
  unfold State.onUnitStages; simp
@[simp] theorem State.onUnitStages_time (s : State) (u : UnitNo) (f : LegEntry → Bool → Stage → Stage) :
    (s.onUnitStages u f).time = s.time := by
  unfold State.onUnitStages; simp

/-! `State.restoreUnit` writes stages only. -/

@[simp] theorem State.restoreUnit_pending (s : State) (u : UnitNo) :
    (s.restoreUnit u).pending = s.pending := by
  unfold State.restoreUnit; simp
@[simp] theorem State.restoreUnit_ports (s : State) (u : UnitNo) :
    (s.restoreUnit u).ports = s.ports := by
  unfold State.restoreUnit; simp
@[simp] theorem State.restoreUnit_cause (s : State) (u : UnitNo) :
    (s.restoreUnit u).cause = s.cause := by
  unfold State.restoreUnit; simp
@[simp] theorem State.restoreUnit_setup (s : State) (u : UnitNo) :
    (s.restoreUnit u).setup = s.setup := by
  unfold State.restoreUnit; simp
@[simp] theorem State.restoreUnit_units (s : State) (u : UnitNo) :
    (s.restoreUnit u).units = s.units := by
  unfold State.restoreUnit; simp
@[simp] theorem State.restoreUnit_seqs (s : State) (u : UnitNo) :
    (s.restoreUnit u).seqs = s.seqs := by
  unfold State.restoreUnit; simp
@[simp] theorem State.restoreUnit_senses (s : State) (u : UnitNo) :
    (s.restoreUnit u).senses = s.senses := by
  unfold State.restoreUnit; simp
@[simp] theorem State.restoreUnit_trips (s : State) (u : UnitNo) :
    (s.restoreUnit u).trips = s.trips := by
  unfold State.restoreUnit; simp
@[simp] theorem State.restoreUnit_faultN (s : State) (u : UnitNo) :
    (s.restoreUnit u).faultN = s.faultN := by
  unfold State.restoreUnit; simp
@[simp] theorem State.restoreUnit_supply (s : State) (u : UnitNo) :
    (s.restoreUnit u).supply = s.supply := by
  unfold State.restoreUnit; simp
@[simp] theorem State.restoreUnit_time (s : State) (u : UnitNo) :
    (s.restoreUnit u).time = s.time := by
  unfold State.restoreUnit; simp

/-! `State.restoreAll` writes stages only. -/

@[simp] theorem State.restoreAll_pending (s : State) :
    (s.restoreAll).pending = s.pending := by
  unfold State.restoreAll; simp
@[simp] theorem State.restoreAll_ports (s : State) :
    (s.restoreAll).ports = s.ports := by
  unfold State.restoreAll; simp
@[simp] theorem State.restoreAll_cause (s : State) :
    (s.restoreAll).cause = s.cause := by
  unfold State.restoreAll; simp
@[simp] theorem State.restoreAll_setup (s : State) :
    (s.restoreAll).setup = s.setup := by
  unfold State.restoreAll; simp
@[simp] theorem State.restoreAll_units (s : State) :
    (s.restoreAll).units = s.units := by
  unfold State.restoreAll; simp
@[simp] theorem State.restoreAll_seqs (s : State) :
    (s.restoreAll).seqs = s.seqs := by
  unfold State.restoreAll; simp
@[simp] theorem State.restoreAll_senses (s : State) :
    (s.restoreAll).senses = s.senses := by
  unfold State.restoreAll; simp
@[simp] theorem State.restoreAll_trips (s : State) :
    (s.restoreAll).trips = s.trips := by
  unfold State.restoreAll; simp
@[simp] theorem State.restoreAll_faultN (s : State) :
    (s.restoreAll).faultN = s.faultN := by
  unfold State.restoreAll; simp
@[simp] theorem State.restoreAll_supply (s : State) :
    (s.restoreAll).supply = s.supply := by
  unfold State.restoreAll; simp
@[simp] theorem State.restoreAll_time (s : State) :
    (s.restoreAll).time = s.time := by
  unfold State.restoreAll; simp

/-! `State.stopUnit` writes seqs, stages only. -/

@[simp] theorem State.stopUnit_pending (s : State) (u : UnitNo) :
    (s.stopUnit u).pending = s.pending := by
  unfold State.stopUnit; simp
@[simp] theorem State.stopUnit_ports (s : State) (u : UnitNo) :
    (s.stopUnit u).ports = s.ports := by
  unfold State.stopUnit; simp
@[simp] theorem State.stopUnit_cause (s : State) (u : UnitNo) :
    (s.stopUnit u).cause = s.cause := by
  unfold State.stopUnit; simp
@[simp] theorem State.stopUnit_setup (s : State) (u : UnitNo) :
    (s.stopUnit u).setup = s.setup := by
  unfold State.stopUnit; simp
@[simp] theorem State.stopUnit_units (s : State) (u : UnitNo) :
    (s.stopUnit u).units = s.units := by
  unfold State.stopUnit; simp
@[simp] theorem State.stopUnit_senses (s : State) (u : UnitNo) :
    (s.stopUnit u).senses = s.senses := by
  unfold State.stopUnit; simp
@[simp] theorem State.stopUnit_trips (s : State) (u : UnitNo) :
    (s.stopUnit u).trips = s.trips := by
  unfold State.stopUnit; simp
@[simp] theorem State.stopUnit_faultN (s : State) (u : UnitNo) :
    (s.stopUnit u).faultN = s.faultN := by
  unfold State.stopUnit; simp
@[simp] theorem State.stopUnit_supply (s : State) (u : UnitNo) :
    (s.stopUnit u).supply = s.supply := by
  unfold State.stopUnit; simp
@[simp] theorem State.stopUnit_time (s : State) (u : UnitNo) :
    (s.stopUnit u).time = s.time := by
  unfold State.stopUnit; simp

/-! `State.wu` writes stages, time only. -/

@[simp] theorem State.wu_pending (s : State) :
    (s.wu).pending = s.pending := by
  unfold State.wu; simp
@[simp] theorem State.wu_ports (s : State) :
    (s.wu).ports = s.ports := by
  unfold State.wu; simp
@[simp] theorem State.wu_cause (s : State) :
    (s.wu).cause = s.cause := by
  unfold State.wu; simp
@[simp] theorem State.wu_setup (s : State) :
    (s.wu).setup = s.setup := by
  unfold State.wu; simp
@[simp] theorem State.wu_units (s : State) :
    (s.wu).units = s.units := by
  unfold State.wu; simp
@[simp] theorem State.wu_seqs (s : State) :
    (s.wu).seqs = s.seqs := by
  unfold State.wu; simp
@[simp] theorem State.wu_senses (s : State) :
    (s.wu).senses = s.senses := by
  unfold State.wu; simp
@[simp] theorem State.wu_trips (s : State) :
    (s.wu).trips = s.trips := by
  unfold State.wu; simp
@[simp] theorem State.wu_faultN (s : State) :
    (s.wu).faultN = s.faultN := by
  unfold State.wu; simp
@[simp] theorem State.wu_supply (s : State) :
    (s.wu).supply = s.supply := by
  unfold State.wu; simp

/-! `State.grant` writes stages, units only. -/

@[simp] theorem State.grant_pending (s : State) (u : UnitNo) (p : Port) (ms : Nat) :
    (s.grant u p ms).pending = s.pending := by
  unfold State.grant; simp
@[simp] theorem State.grant_ports (s : State) (u : UnitNo) (p : Port) (ms : Nat) :
    (s.grant u p ms).ports = s.ports := by
  unfold State.grant; simp
@[simp] theorem State.grant_cause (s : State) (u : UnitNo) (p : Port) (ms : Nat) :
    (s.grant u p ms).cause = s.cause := by
  unfold State.grant; simp
@[simp] theorem State.grant_setup (s : State) (u : UnitNo) (p : Port) (ms : Nat) :
    (s.grant u p ms).setup = s.setup := by
  unfold State.grant; simp
@[simp] theorem State.grant_seqs (s : State) (u : UnitNo) (p : Port) (ms : Nat) :
    (s.grant u p ms).seqs = s.seqs := by
  unfold State.grant; simp
@[simp] theorem State.grant_senses (s : State) (u : UnitNo) (p : Port) (ms : Nat) :
    (s.grant u p ms).senses = s.senses := by
  unfold State.grant; simp
@[simp] theorem State.grant_trips (s : State) (u : UnitNo) (p : Port) (ms : Nat) :
    (s.grant u p ms).trips = s.trips := by
  unfold State.grant; simp
@[simp] theorem State.grant_faultN (s : State) (u : UnitNo) (p : Port) (ms : Nat) :
    (s.grant u p ms).faultN = s.faultN := by
  unfold State.grant; simp
@[simp] theorem State.grant_supply (s : State) (u : UnitNo) (p : Port) (ms : Nat) :
    (s.grant u p ms).supply = s.supply := by
  unfold State.grant; simp
@[simp] theorem State.grant_time (s : State) (u : UnitNo) (p : Port) (ms : Nat) :
    (s.grant u p ms).time = s.time := by
  unfold State.grant; simp

/-! `State.endQuiet` writes ports, stages, units only. -/

@[simp] theorem State.endQuiet_pending (s : State) (u : UnitNo) :
    (s.endQuiet u).pending = s.pending := by
  unfold State.endQuiet; split <;> simp
@[simp] theorem State.endQuiet_cause (s : State) (u : UnitNo) :
    (s.endQuiet u).cause = s.cause := by
  unfold State.endQuiet; split <;> simp
@[simp] theorem State.endQuiet_setup (s : State) (u : UnitNo) :
    (s.endQuiet u).setup = s.setup := by
  unfold State.endQuiet; split <;> simp
@[simp] theorem State.endQuiet_seqs (s : State) (u : UnitNo) :
    (s.endQuiet u).seqs = s.seqs := by
  unfold State.endQuiet; split <;> simp
@[simp] theorem State.endQuiet_senses (s : State) (u : UnitNo) :
    (s.endQuiet u).senses = s.senses := by
  unfold State.endQuiet; split <;> simp
@[simp] theorem State.endQuiet_trips (s : State) (u : UnitNo) :
    (s.endQuiet u).trips = s.trips := by
  unfold State.endQuiet; split <;> simp
@[simp] theorem State.endQuiet_faultN (s : State) (u : UnitNo) :
    (s.endQuiet u).faultN = s.faultN := by
  unfold State.endQuiet; split <;> simp
@[simp] theorem State.endQuiet_supply (s : State) (u : UnitNo) :
    (s.endQuiet u).supply = s.supply := by
  unfold State.endQuiet; split <;> simp
@[simp] theorem State.endQuiet_time (s : State) (u : UnitNo) :
    (s.endQuiet u).time = s.time := by
  unfold State.endQuiet; split <;> simp

/-! `State.loadQuiet` writes units only. -/

@[simp] theorem State.loadQuiet_pending (s : State) (u : UnitNo) :
    (s.loadQuiet u).pending = s.pending := by
  unfold State.loadQuiet; simp
@[simp] theorem State.loadQuiet_ports (s : State) (u : UnitNo) :
    (s.loadQuiet u).ports = s.ports := by
  unfold State.loadQuiet; simp
@[simp] theorem State.loadQuiet_cause (s : State) (u : UnitNo) :
    (s.loadQuiet u).cause = s.cause := by
  unfold State.loadQuiet; simp
@[simp] theorem State.loadQuiet_setup (s : State) (u : UnitNo) :
    (s.loadQuiet u).setup = s.setup := by
  unfold State.loadQuiet; simp
@[simp] theorem State.loadQuiet_seqs (s : State) (u : UnitNo) :
    (s.loadQuiet u).seqs = s.seqs := by
  unfold State.loadQuiet; simp
@[simp] theorem State.loadQuiet_stages (s : State) (u : UnitNo) :
    (s.loadQuiet u).stages = s.stages := by
  unfold State.loadQuiet; simp
@[simp] theorem State.loadQuiet_senses (s : State) (u : UnitNo) :
    (s.loadQuiet u).senses = s.senses := by
  unfold State.loadQuiet; simp
@[simp] theorem State.loadQuiet_trips (s : State) (u : UnitNo) :
    (s.loadQuiet u).trips = s.trips := by
  unfold State.loadQuiet; simp
@[simp] theorem State.loadQuiet_faultN (s : State) (u : UnitNo) :
    (s.loadQuiet u).faultN = s.faultN := by
  unfold State.loadQuiet; simp
@[simp] theorem State.loadQuiet_supply (s : State) (u : UnitNo) :
    (s.loadQuiet u).supply = s.supply := by
  unfold State.loadQuiet; simp
@[simp] theorem State.loadQuiet_time (s : State) (u : UnitNo) :
    (s.loadQuiet u).time = s.time := by
  unfold State.loadQuiet; simp

/-! `State.endZeroQuiet` writes ports, stages, units only. -/

@[simp] theorem State.endZeroQuiet_pending (s : State) (u : UnitNo) :
    (s.endZeroQuiet u).pending = s.pending := by
  unfold State.endZeroQuiet; split <;> simp
@[simp] theorem State.endZeroQuiet_cause (s : State) (u : UnitNo) :
    (s.endZeroQuiet u).cause = s.cause := by
  unfold State.endZeroQuiet; split <;> simp
@[simp] theorem State.endZeroQuiet_setup (s : State) (u : UnitNo) :
    (s.endZeroQuiet u).setup = s.setup := by
  unfold State.endZeroQuiet; split <;> simp
@[simp] theorem State.endZeroQuiet_seqs (s : State) (u : UnitNo) :
    (s.endZeroQuiet u).seqs = s.seqs := by
  unfold State.endZeroQuiet; split <;> simp
@[simp] theorem State.endZeroQuiet_senses (s : State) (u : UnitNo) :
    (s.endZeroQuiet u).senses = s.senses := by
  unfold State.endZeroQuiet; split <;> simp
@[simp] theorem State.endZeroQuiet_trips (s : State) (u : UnitNo) :
    (s.endZeroQuiet u).trips = s.trips := by
  unfold State.endZeroQuiet; split <;> simp
@[simp] theorem State.endZeroQuiet_faultN (s : State) (u : UnitNo) :
    (s.endZeroQuiet u).faultN = s.faultN := by
  unfold State.endZeroQuiet; split <;> simp
@[simp] theorem State.endZeroQuiet_supply (s : State) (u : UnitNo) :
    (s.endZeroQuiet u).supply = s.supply := by
  unfold State.endZeroQuiet; split <;> simp
@[simp] theorem State.endZeroQuiet_time (s : State) (u : UnitNo) :
    (s.endZeroQuiet u).time = s.time := by
  unfold State.endZeroQuiet; split <;> simp

/-! `State.startQuiet` writes ports, stages, units only. -/

@[simp] theorem State.startQuiet_pending (s : State) (u : UnitNo) :
    (s.startQuiet u).pending = s.pending := by
  unfold State.startQuiet; simp
@[simp] theorem State.startQuiet_cause (s : State) (u : UnitNo) :
    (s.startQuiet u).cause = s.cause := by
  unfold State.startQuiet; simp
@[simp] theorem State.startQuiet_setup (s : State) (u : UnitNo) :
    (s.startQuiet u).setup = s.setup := by
  unfold State.startQuiet; simp
@[simp] theorem State.startQuiet_seqs (s : State) (u : UnitNo) :
    (s.startQuiet u).seqs = s.seqs := by
  unfold State.startQuiet; simp
@[simp] theorem State.startQuiet_senses (s : State) (u : UnitNo) :
    (s.startQuiet u).senses = s.senses := by
  unfold State.startQuiet; simp
@[simp] theorem State.startQuiet_trips (s : State) (u : UnitNo) :
    (s.startQuiet u).trips = s.trips := by
  unfold State.startQuiet; simp
@[simp] theorem State.startQuiet_faultN (s : State) (u : UnitNo) :
    (s.startQuiet u).faultN = s.faultN := by
  unfold State.startQuiet; simp
@[simp] theorem State.startQuiet_supply (s : State) (u : UnitNo) :
    (s.startQuiet u).supply = s.supply := by
  unfold State.startQuiet; simp
@[simp] theorem State.startQuiet_time (s : State) (u : UnitNo) :
    (s.startQuiet u).time = s.time := by
  unfold State.startQuiet; simp

/-! `State.abort` writes ports, seqs, stages, units only. -/

@[simp] theorem State.abort_pending (s : State) (u : UnitNo) (n : Option Notice) :
    (s.abort u n).pending = s.pending := by
  cases n <;> simp [State.abort]
@[simp] theorem State.abort_cause (s : State) (u : UnitNo) (n : Option Notice) :
    (s.abort u n).cause = s.cause := by
  cases n <;> simp [State.abort]
@[simp] theorem State.abort_setup (s : State) (u : UnitNo) (n : Option Notice) :
    (s.abort u n).setup = s.setup := by
  cases n <;> simp [State.abort]
@[simp] theorem State.abort_senses (s : State) (u : UnitNo) (n : Option Notice) :
    (s.abort u n).senses = s.senses := by
  cases n <;> simp [State.abort]
@[simp] theorem State.abort_trips (s : State) (u : UnitNo) (n : Option Notice) :
    (s.abort u n).trips = s.trips := by
  cases n <;> simp [State.abort]
@[simp] theorem State.abort_faultN (s : State) (u : UnitNo) (n : Option Notice) :
    (s.abort u n).faultN = s.faultN := by
  cases n <;> simp [State.abort]
@[simp] theorem State.abort_supply (s : State) (u : UnitNo) (n : Option Notice) :
    (s.abort u n).supply = s.supply := by
  cases n <;> simp [State.abort]
@[simp] theorem State.abort_time (s : State) (u : UnitNo) (n : Option Notice) :
    (s.abort u n).time = s.time := by
  cases n <;> simp [State.abort]

/-! `State.beginDrain` writes ports, stages, units only. -/

@[simp] theorem State.beginDrain_pending (s : State) (u : UnitNo) :
    (s.beginDrain u).pending = s.pending := by
  unfold State.beginDrain; simp
@[simp] theorem State.beginDrain_cause (s : State) (u : UnitNo) :
    (s.beginDrain u).cause = s.cause := by
  unfold State.beginDrain; simp
@[simp] theorem State.beginDrain_setup (s : State) (u : UnitNo) :
    (s.beginDrain u).setup = s.setup := by
  unfold State.beginDrain; simp
@[simp] theorem State.beginDrain_seqs (s : State) (u : UnitNo) :
    (s.beginDrain u).seqs = s.seqs := by
  unfold State.beginDrain; simp
@[simp] theorem State.beginDrain_senses (s : State) (u : UnitNo) :
    (s.beginDrain u).senses = s.senses := by
  unfold State.beginDrain; simp
@[simp] theorem State.beginDrain_trips (s : State) (u : UnitNo) :
    (s.beginDrain u).trips = s.trips := by
  unfold State.beginDrain; simp
@[simp] theorem State.beginDrain_faultN (s : State) (u : UnitNo) :
    (s.beginDrain u).faultN = s.faultN := by
  unfold State.beginDrain; simp
@[simp] theorem State.beginDrain_supply (s : State) (u : UnitNo) :
    (s.beginDrain u).supply = s.supply := by
  unfold State.beginDrain; simp
@[simp] theorem State.beginDrain_time (s : State) (u : UnitNo) :
    (s.beginDrain u).time = s.time := by
  unfold State.beginDrain; simp

/-! `State.drain` writes ports, stages, units only. -/

@[simp] theorem State.drain_pending (s : State) (u : UnitNo) :
    (s.drain u).pending = s.pending := by
  unfold State.drain; simp
@[simp] theorem State.drain_cause (s : State) (u : UnitNo) :
    (s.drain u).cause = s.cause := by
  unfold State.drain; simp
@[simp] theorem State.drain_setup (s : State) (u : UnitNo) :
    (s.drain u).setup = s.setup := by
  unfold State.drain; simp
@[simp] theorem State.drain_seqs (s : State) (u : UnitNo) :
    (s.drain u).seqs = s.seqs := by
  unfold State.drain; simp
@[simp] theorem State.drain_senses (s : State) (u : UnitNo) :
    (s.drain u).senses = s.senses := by
  unfold State.drain; simp
@[simp] theorem State.drain_trips (s : State) (u : UnitNo) :
    (s.drain u).trips = s.trips := by
  unfold State.drain; simp
@[simp] theorem State.drain_faultN (s : State) (u : UnitNo) :
    (s.drain u).faultN = s.faultN := by
  unfold State.drain; simp
@[simp] theorem State.drain_supply (s : State) (u : UnitNo) :
    (s.drain u).supply = s.supply := by
  unfold State.drain; simp
@[simp] theorem State.drain_time (s : State) (u : UnitNo) :
    (s.drain u).time = s.time := by
  unfold State.drain; simp

/-! `State.drainCheck` writes ports, stages, units only. -/

@[simp] theorem State.drainCheck_pending (s : State) (u : UnitNo) :
    (s.drainCheck u).pending = s.pending := by
  unfold State.drainCheck; split <;> simp
@[simp] theorem State.drainCheck_cause (s : State) (u : UnitNo) :
    (s.drainCheck u).cause = s.cause := by
  unfold State.drainCheck; split <;> simp
@[simp] theorem State.drainCheck_setup (s : State) (u : UnitNo) :
    (s.drainCheck u).setup = s.setup := by
  unfold State.drainCheck; split <;> simp
@[simp] theorem State.drainCheck_seqs (s : State) (u : UnitNo) :
    (s.drainCheck u).seqs = s.seqs := by
  unfold State.drainCheck; split <;> simp
@[simp] theorem State.drainCheck_senses (s : State) (u : UnitNo) :
    (s.drainCheck u).senses = s.senses := by
  unfold State.drainCheck; split <;> simp
@[simp] theorem State.drainCheck_trips (s : State) (u : UnitNo) :
    (s.drainCheck u).trips = s.trips := by
  unfold State.drainCheck; split <;> simp
@[simp] theorem State.drainCheck_faultN (s : State) (u : UnitNo) :
    (s.drainCheck u).faultN = s.faultN := by
  unfold State.drainCheck; split <;> simp
@[simp] theorem State.drainCheck_supply (s : State) (u : UnitNo) :
    (s.drainCheck u).supply = s.supply := by
  unfold State.drainCheck; split <;> simp
@[simp] theorem State.drainCheck_time (s : State) (u : UnitNo) :
    (s.drainCheck u).time = s.time := by
  unfold State.drainCheck; split <;> simp

/-! `State.beginDrainCheck` writes ports, stages, units only. -/

@[simp] theorem State.beginDrainCheck_pending (s : State) (u : UnitNo) :
    (s.beginDrainCheck u).pending = s.pending := by
  unfold State.beginDrainCheck; split <;> simp
@[simp] theorem State.beginDrainCheck_cause (s : State) (u : UnitNo) :
    (s.beginDrainCheck u).cause = s.cause := by
  unfold State.beginDrainCheck; split <;> simp
@[simp] theorem State.beginDrainCheck_setup (s : State) (u : UnitNo) :
    (s.beginDrainCheck u).setup = s.setup := by
  unfold State.beginDrainCheck; split <;> simp
@[simp] theorem State.beginDrainCheck_seqs (s : State) (u : UnitNo) :
    (s.beginDrainCheck u).seqs = s.seqs := by
  unfold State.beginDrainCheck; split <;> simp
@[simp] theorem State.beginDrainCheck_senses (s : State) (u : UnitNo) :
    (s.beginDrainCheck u).senses = s.senses := by
  unfold State.beginDrainCheck; split <;> simp
@[simp] theorem State.beginDrainCheck_trips (s : State) (u : UnitNo) :
    (s.beginDrainCheck u).trips = s.trips := by
  unfold State.beginDrainCheck; split <;> simp
@[simp] theorem State.beginDrainCheck_faultN (s : State) (u : UnitNo) :
    (s.beginDrainCheck u).faultN = s.faultN := by
  unfold State.beginDrainCheck; split <;> simp
@[simp] theorem State.beginDrainCheck_supply (s : State) (u : UnitNo) :
    (s.beginDrainCheck u).supply = s.supply := by
  unfold State.beginDrainCheck; split <;> simp
@[simp] theorem State.beginDrainCheck_time (s : State) (u : UnitNo) :
    (s.beginDrainCheck u).time = s.time := by
  unfold State.beginDrainCheck; split <;> simp

/-! `State.endZeroQuiets` writes ports, stages, units only. -/

@[simp] theorem State.endZeroQuiets_pending (s : State) (us : List UnitNo) :
    (s.endZeroQuiets us).pending = s.pending := by
  unfold State.endZeroQuiets
  induction us generalizing s with
  | nil => rfl
  | cons u us ih => rw [List.foldl_cons, ih]; simp
@[simp] theorem State.endZeroQuiets_cause (s : State) (us : List UnitNo) :
    (s.endZeroQuiets us).cause = s.cause := by
  unfold State.endZeroQuiets
  induction us generalizing s with
  | nil => rfl
  | cons u us ih => rw [List.foldl_cons, ih]; simp
@[simp] theorem State.endZeroQuiets_setup (s : State) (us : List UnitNo) :
    (s.endZeroQuiets us).setup = s.setup := by
  unfold State.endZeroQuiets
  induction us generalizing s with
  | nil => rfl
  | cons u us ih => rw [List.foldl_cons, ih]; simp
@[simp] theorem State.endZeroQuiets_seqs (s : State) (us : List UnitNo) :
    (s.endZeroQuiets us).seqs = s.seqs := by
  unfold State.endZeroQuiets
  induction us generalizing s with
  | nil => rfl
  | cons u us ih => rw [List.foldl_cons, ih]; simp
@[simp] theorem State.endZeroQuiets_senses (s : State) (us : List UnitNo) :
    (s.endZeroQuiets us).senses = s.senses := by
  unfold State.endZeroQuiets
  induction us generalizing s with
  | nil => rfl
  | cons u us ih => rw [List.foldl_cons, ih]; simp
@[simp] theorem State.endZeroQuiets_trips (s : State) (us : List UnitNo) :
    (s.endZeroQuiets us).trips = s.trips := by
  unfold State.endZeroQuiets
  induction us generalizing s with
  | nil => rfl
  | cons u us ih => rw [List.foldl_cons, ih]; simp
@[simp] theorem State.endZeroQuiets_faultN (s : State) (us : List UnitNo) :
    (s.endZeroQuiets us).faultN = s.faultN := by
  unfold State.endZeroQuiets
  induction us generalizing s with
  | nil => rfl
  | cons u us ih => rw [List.foldl_cons, ih]; simp
@[simp] theorem State.endZeroQuiets_supply (s : State) (us : List UnitNo) :
    (s.endZeroQuiets us).supply = s.supply := by
  unfold State.endZeroQuiets
  induction us generalizing s with
  | nil => rfl
  | cons u us ih => rw [List.foldl_cons, ih]; simp
@[simp] theorem State.endZeroQuiets_time (s : State) (us : List UnitNo) :
    (s.endZeroQuiets us).time = s.time := by
  unfold State.endZeroQuiets
  induction us generalizing s with
  | nil => rfl
  | cons u us ih => rw [List.foldl_cons, ih]; simp

/-! `State.drainChecks` writes ports, stages, units only. -/

@[simp] theorem State.drainChecks_pending (s : State) :
    (s.drainChecks).pending = s.pending := by
  simp [State.drainChecks, four]
@[simp] theorem State.drainChecks_cause (s : State) :
    (s.drainChecks).cause = s.cause := by
  simp [State.drainChecks, four]
@[simp] theorem State.drainChecks_setup (s : State) :
    (s.drainChecks).setup = s.setup := by
  simp [State.drainChecks, four]
@[simp] theorem State.drainChecks_seqs (s : State) :
    (s.drainChecks).seqs = s.seqs := by
  simp [State.drainChecks, four]
@[simp] theorem State.drainChecks_senses (s : State) :
    (s.drainChecks).senses = s.senses := by
  simp [State.drainChecks, four]
@[simp] theorem State.drainChecks_trips (s : State) :
    (s.drainChecks).trips = s.trips := by
  simp [State.drainChecks, four]
@[simp] theorem State.drainChecks_faultN (s : State) :
    (s.drainChecks).faultN = s.faultN := by
  simp [State.drainChecks, four]
@[simp] theorem State.drainChecks_supply (s : State) :
    (s.drainChecks).supply = s.supply := by
  simp [State.drainChecks, four]
@[simp] theorem State.drainChecks_time (s : State) :
    (s.drainChecks).time = s.time := by
  simp [State.drainChecks, four]

/-! `State.take` writes seqs, stages only. -/

@[simp] theorem State.take_pending (s : State) (l : Leg) :
    (s.take l).pending = s.pending := by
  unfold State.take; split <;> simp
@[simp] theorem State.take_ports (s : State) (l : Leg) :
    (s.take l).ports = s.ports := by
  unfold State.take; split <;> simp
@[simp] theorem State.take_cause (s : State) (l : Leg) :
    (s.take l).cause = s.cause := by
  unfold State.take; split <;> simp
@[simp] theorem State.take_setup (s : State) (l : Leg) :
    (s.take l).setup = s.setup := by
  unfold State.take; split <;> simp
@[simp] theorem State.take_units (s : State) (l : Leg) :
    (s.take l).units = s.units := by
  unfold State.take; split <;> simp
@[simp] theorem State.take_senses (s : State) (l : Leg) :
    (s.take l).senses = s.senses := by
  unfold State.take; split <;> simp
@[simp] theorem State.take_trips (s : State) (l : Leg) :
    (s.take l).trips = s.trips := by
  unfold State.take; split <;> simp
@[simp] theorem State.take_faultN (s : State) (l : Leg) :
    (s.take l).faultN = s.faultN := by
  unfold State.take; split <;> simp
@[simp] theorem State.take_supply (s : State) (l : Leg) :
    (s.take l).supply = s.supply := by
  unfold State.take; split <;> simp
@[simp] theorem State.take_time (s : State) (l : Leg) :
    (s.take l).time = s.time := by
  unfold State.take; split <;> simp

/-! `State.openGate` writes seqs, stages only. -/

@[simp] theorem State.openGate_pending (s : State) (l : Leg) :
    (s.openGate l).pending = s.pending := by
  unfold State.openGate; split <;> simp
@[simp] theorem State.openGate_ports (s : State) (l : Leg) :
    (s.openGate l).ports = s.ports := by
  unfold State.openGate; split <;> simp
@[simp] theorem State.openGate_cause (s : State) (l : Leg) :
    (s.openGate l).cause = s.cause := by
  unfold State.openGate; split <;> simp
@[simp] theorem State.openGate_setup (s : State) (l : Leg) :
    (s.openGate l).setup = s.setup := by
  unfold State.openGate; split <;> simp
@[simp] theorem State.openGate_units (s : State) (l : Leg) :
    (s.openGate l).units = s.units := by
  unfold State.openGate; split <;> simp
@[simp] theorem State.openGate_senses (s : State) (l : Leg) :
    (s.openGate l).senses = s.senses := by
  unfold State.openGate; split <;> simp
@[simp] theorem State.openGate_trips (s : State) (l : Leg) :
    (s.openGate l).trips = s.trips := by
  unfold State.openGate; split <;> simp
@[simp] theorem State.openGate_faultN (s : State) (l : Leg) :
    (s.openGate l).faultN = s.faultN := by
  unfold State.openGate; split <;> simp
@[simp] theorem State.openGate_supply (s : State) (l : Leg) :
    (s.openGate l).supply = s.supply := by
  unfold State.openGate; split <;> simp
@[simp] theorem State.openGate_time (s : State) (l : Leg) :
    (s.openGate l).time = s.time := by
  unfold State.openGate; split <;> simp

/-! `State.queueLowCheck` writes ports, seqs only. -/

@[simp] theorem State.queueLowCheck_pending (s : State) (l : Leg) (k : Nat) :
    (s.queueLowCheck l k).pending = s.pending := by
  unfold State.queueLowCheck; dsimp only; split <;> simp
@[simp] theorem State.queueLowCheck_cause (s : State) (l : Leg) (k : Nat) :
    (s.queueLowCheck l k).cause = s.cause := by
  unfold State.queueLowCheck; dsimp only; split <;> simp
@[simp] theorem State.queueLowCheck_setup (s : State) (l : Leg) (k : Nat) :
    (s.queueLowCheck l k).setup = s.setup := by
  unfold State.queueLowCheck; dsimp only; split <;> simp
@[simp] theorem State.queueLowCheck_units (s : State) (l : Leg) (k : Nat) :
    (s.queueLowCheck l k).units = s.units := by
  unfold State.queueLowCheck; dsimp only; split <;> simp
@[simp] theorem State.queueLowCheck_stages (s : State) (l : Leg) (k : Nat) :
    (s.queueLowCheck l k).stages = s.stages := by
  unfold State.queueLowCheck; dsimp only; split <;> simp
@[simp] theorem State.queueLowCheck_senses (s : State) (l : Leg) (k : Nat) :
    (s.queueLowCheck l k).senses = s.senses := by
  unfold State.queueLowCheck; dsimp only; split <;> simp
@[simp] theorem State.queueLowCheck_trips (s : State) (l : Leg) (k : Nat) :
    (s.queueLowCheck l k).trips = s.trips := by
  unfold State.queueLowCheck; dsimp only; split <;> simp
@[simp] theorem State.queueLowCheck_faultN (s : State) (l : Leg) (k : Nat) :
    (s.queueLowCheck l k).faultN = s.faultN := by
  unfold State.queueLowCheck; dsimp only; split <;> simp
@[simp] theorem State.queueLowCheck_supply (s : State) (l : Leg) (k : Nat) :
    (s.queueLowCheck l k).supply = s.supply := by
  unfold State.queueLowCheck; dsimp only; split <;> simp
@[simp] theorem State.queueLowCheck_time (s : State) (l : Leg) (k : Nat) :
    (s.queueLowCheck l k).time = s.time := by
  unfold State.queueLowCheck; dsimp only; split <;> simp

/-! `State.endSegment` writes ports, seqs, stages, units only. -/

@[simp] theorem State.endSegment_pending (s : State) (l : Leg) (a : Active) :
    (s.endSegment l a).pending = s.pending := by
  unfold State.endSegment; dsimp only; repeat' split
  all_goals simp
@[simp] theorem State.endSegment_cause (s : State) (l : Leg) (a : Active) :
    (s.endSegment l a).cause = s.cause := by
  unfold State.endSegment; dsimp only; repeat' split
  all_goals simp
@[simp] theorem State.endSegment_setup (s : State) (l : Leg) (a : Active) :
    (s.endSegment l a).setup = s.setup := by
  unfold State.endSegment; dsimp only; repeat' split
  all_goals simp
@[simp] theorem State.endSegment_senses (s : State) (l : Leg) (a : Active) :
    (s.endSegment l a).senses = s.senses := by
  unfold State.endSegment; dsimp only; repeat' split
  all_goals simp
@[simp] theorem State.endSegment_trips (s : State) (l : Leg) (a : Active) :
    (s.endSegment l a).trips = s.trips := by
  unfold State.endSegment; dsimp only; repeat' split
  all_goals simp
@[simp] theorem State.endSegment_faultN (s : State) (l : Leg) (a : Active) :
    (s.endSegment l a).faultN = s.faultN := by
  unfold State.endSegment; dsimp only; repeat' split
  all_goals simp
@[simp] theorem State.endSegment_supply (s : State) (l : Leg) (a : Active) :
    (s.endSegment l a).supply = s.supply := by
  unfold State.endSegment; dsimp only; repeat' split
  all_goals simp
@[simp] theorem State.endSegment_time (s : State) (l : Leg) (a : Active) :
    (s.endSegment l a).time = s.time := by
  unfold State.endSegment; dsimp only; repeat' split
  all_goals simp

/-! `State.endPeriod` writes ports, seqs, stages, units only. -/

@[simp] theorem State.endPeriod_pending (s : State) (l : Leg) (a : Active) (y : Layout) :
    (s.endPeriod l a y).pending = s.pending := by
  unfold State.endPeriod; dsimp only; split
  all_goals split
  all_goals simp
@[simp] theorem State.endPeriod_cause (s : State) (l : Leg) (a : Active) (y : Layout) :
    (s.endPeriod l a y).cause = s.cause := by
  unfold State.endPeriod; dsimp only; split
  all_goals split
  all_goals simp
@[simp] theorem State.endPeriod_setup (s : State) (l : Leg) (a : Active) (y : Layout) :
    (s.endPeriod l a y).setup = s.setup := by
  unfold State.endPeriod; dsimp only; split
  all_goals split
  all_goals simp
@[simp] theorem State.endPeriod_senses (s : State) (l : Leg) (a : Active) (y : Layout) :
    (s.endPeriod l a y).senses = s.senses := by
  unfold State.endPeriod; dsimp only; split
  all_goals split
  all_goals simp
@[simp] theorem State.endPeriod_trips (s : State) (l : Leg) (a : Active) (y : Layout) :
    (s.endPeriod l a y).trips = s.trips := by
  unfold State.endPeriod; dsimp only; split
  all_goals split
  all_goals simp
@[simp] theorem State.endPeriod_faultN (s : State) (l : Leg) (a : Active) (y : Layout) :
    (s.endPeriod l a y).faultN = s.faultN := by
  unfold State.endPeriod; dsimp only; split
  all_goals split
  all_goals simp
@[simp] theorem State.endPeriod_supply (s : State) (l : Leg) (a : Active) (y : Layout) :
    (s.endPeriod l a y).supply = s.supply := by
  unfold State.endPeriod; dsimp only; split
  all_goals split
  all_goals simp
@[simp] theorem State.endPeriod_time (s : State) (l : Leg) (a : Active) (y : Layout) :
    (s.endPeriod l a y).time = s.time := by
  unfold State.endPeriod; dsimp only; split
  all_goals split
  all_goals simp

/-! `State.strike` writes ports, seqs, stages, trips only. -/

@[simp] theorem State.strike_pending (s : State) (u : UnitNo) (c : Cause) (g : Option Leg) :
    (s.strike u c g).pending = s.pending := by
  unfold State.strike; simp
@[simp] theorem State.strike_cause (s : State) (u : UnitNo) (c : Cause) (g : Option Leg) :
    (s.strike u c g).cause = s.cause := by
  unfold State.strike; simp
@[simp] theorem State.strike_setup (s : State) (u : UnitNo) (c : Cause) (g : Option Leg) :
    (s.strike u c g).setup = s.setup := by
  unfold State.strike; simp
@[simp] theorem State.strike_units (s : State) (u : UnitNo) (c : Cause) (g : Option Leg) :
    (s.strike u c g).units = s.units := by
  unfold State.strike; simp
@[simp] theorem State.strike_senses (s : State) (u : UnitNo) (c : Cause) (g : Option Leg) :
    (s.strike u c g).senses = s.senses := by
  unfold State.strike; simp
@[simp] theorem State.strike_faultN (s : State) (u : UnitNo) (c : Cause) (g : Option Leg) :
    (s.strike u c g).faultN = s.faultN := by
  unfold State.strike; simp
@[simp] theorem State.strike_supply (s : State) (u : UnitNo) (c : Cause) (g : Option Leg) :
    (s.strike u c g).supply = s.supply := by
  unfold State.strike; simp
@[simp] theorem State.strike_time (s : State) (u : UnitNo) (c : Cause) (g : Option Leg) :
    (s.strike u c g).time = s.time := by
  unfold State.strike; simp

/-! `State.takeTrip` writes ports, seqs, stages, trips, units only. -/

@[simp] theorem State.takeTrip_pending (s : State) (u : UnitNo) (c : Cause) (g : Option Leg) :
    (s.takeTrip u c g).pending = s.pending := by
  unfold State.takeTrip; simp
@[simp] theorem State.takeTrip_cause (s : State) (u : UnitNo) (c : Cause) (g : Option Leg) :
    (s.takeTrip u c g).cause = s.cause := by
  unfold State.takeTrip; simp
@[simp] theorem State.takeTrip_setup (s : State) (u : UnitNo) (c : Cause) (g : Option Leg) :
    (s.takeTrip u c g).setup = s.setup := by
  unfold State.takeTrip; simp
@[simp] theorem State.takeTrip_senses (s : State) (u : UnitNo) (c : Cause) (g : Option Leg) :
    (s.takeTrip u c g).senses = s.senses := by
  unfold State.takeTrip; simp
@[simp] theorem State.takeTrip_faultN (s : State) (u : UnitNo) (c : Cause) (g : Option Leg) :
    (s.takeTrip u c g).faultN = s.faultN := by
  unfold State.takeTrip; simp
@[simp] theorem State.takeTrip_supply (s : State) (u : UnitNo) (c : Cause) (g : Option Leg) :
    (s.takeTrip u c g).supply = s.supply := by
  unfold State.takeTrip; simp
@[simp] theorem State.takeTrip_time (s : State) (u : UnitNo) (c : Cause) (g : Option Leg) :
    (s.takeTrip u c g).time = s.time := by
  unfold State.takeTrip; simp

/-! `State.tripRequest` writes ports, seqs, stages, trips, units only. -/

@[simp] theorem State.tripRequest_pending (s : State) (u : UnitNo) (c : Cause) (g : Option Leg) :
    (s.tripRequest u c g).pending = s.pending := by
  unfold State.tripRequest; split <;> simp
@[simp] theorem State.tripRequest_cause (s : State) (u : UnitNo) (c : Cause) (g : Option Leg) :
    (s.tripRequest u c g).cause = s.cause := by
  unfold State.tripRequest; split <;> simp
@[simp] theorem State.tripRequest_setup (s : State) (u : UnitNo) (c : Cause) (g : Option Leg) :
    (s.tripRequest u c g).setup = s.setup := by
  unfold State.tripRequest; split <;> simp
@[simp] theorem State.tripRequest_senses (s : State) (u : UnitNo) (c : Cause) (g : Option Leg) :
    (s.tripRequest u c g).senses = s.senses := by
  unfold State.tripRequest; split <;> simp
@[simp] theorem State.tripRequest_faultN (s : State) (u : UnitNo) (c : Cause) (g : Option Leg) :
    (s.tripRequest u c g).faultN = s.faultN := by
  unfold State.tripRequest; split <;> simp
@[simp] theorem State.tripRequest_supply (s : State) (u : UnitNo) (c : Cause) (g : Option Leg) :
    (s.tripRequest u c g).supply = s.supply := by
  unfold State.tripRequest; split <;> simp
@[simp] theorem State.tripRequest_time (s : State) (u : UnitNo) (c : Cause) (g : Option Leg) :
    (s.tripRequest u c g).time = s.time := by
  unfold State.tripRequest; split <;> simp

/-! `State.externalRequest` writes ports, seqs, stages, trips, units only. -/

@[simp] theorem State.externalRequest_pending (s : State) (u : UnitNo) :
    (s.externalRequest u).pending = s.pending := by
  unfold State.externalRequest; repeat' split
  all_goals simp
@[simp] theorem State.externalRequest_cause (s : State) (u : UnitNo) :
    (s.externalRequest u).cause = s.cause := by
  unfold State.externalRequest; repeat' split
  all_goals simp
@[simp] theorem State.externalRequest_setup (s : State) (u : UnitNo) :
    (s.externalRequest u).setup = s.setup := by
  unfold State.externalRequest; repeat' split
  all_goals simp
@[simp] theorem State.externalRequest_senses (s : State) (u : UnitNo) :
    (s.externalRequest u).senses = s.senses := by
  unfold State.externalRequest; repeat' split
  all_goals simp
@[simp] theorem State.externalRequest_faultN (s : State) (u : UnitNo) :
    (s.externalRequest u).faultN = s.faultN := by
  unfold State.externalRequest; repeat' split
  all_goals simp
@[simp] theorem State.externalRequest_supply (s : State) (u : UnitNo) :
    (s.externalRequest u).supply = s.supply := by
  unfold State.externalRequest; repeat' split
  all_goals simp
@[simp] theorem State.externalRequest_time (s : State) (u : UnitNo) :
    (s.externalRequest u).time = s.time := by
  unfold State.externalRequest; repeat' split
  all_goals simp

/-! `State.tripAll` writes ports, seqs, stages, trips, units only. -/

@[simp] theorem State.tripAll_pending (s : State) :
    (s.tripAll).pending = s.pending := by
  simp [State.tripAll, four]
@[simp] theorem State.tripAll_cause (s : State) :
    (s.tripAll).cause = s.cause := by
  simp [State.tripAll, four]
@[simp] theorem State.tripAll_setup (s : State) :
    (s.tripAll).setup = s.setup := by
  simp [State.tripAll, four]
@[simp] theorem State.tripAll_senses (s : State) :
    (s.tripAll).senses = s.senses := by
  simp [State.tripAll, four]
@[simp] theorem State.tripAll_faultN (s : State) :
    (s.tripAll).faultN = s.faultN := by
  simp [State.tripAll, four]
@[simp] theorem State.tripAll_supply (s : State) :
    (s.tripAll).supply = s.supply := by
  simp [State.tripAll, four]
@[simp] theorem State.tripAll_time (s : State) :
    (s.tripAll).time = s.time := by
  simp [State.tripAll, four]

/-! `State.cycleCut` writes ports, seqs, stages, trips, units only. -/

@[simp] theorem State.cycleCut_pending (s : State) (n : SenseNo) (l : Leg) :
    (s.cycleCut n l).pending = s.pending := by
  unfold State.cycleCut; dsimp only; repeat' split
  all_goals simp
@[simp] theorem State.cycleCut_cause (s : State) (n : SenseNo) (l : Leg) :
    (s.cycleCut n l).cause = s.cause := by
  unfold State.cycleCut; dsimp only; repeat' split
  all_goals simp
@[simp] theorem State.cycleCut_setup (s : State) (n : SenseNo) (l : Leg) :
    (s.cycleCut n l).setup = s.setup := by
  unfold State.cycleCut; dsimp only; repeat' split
  all_goals simp
@[simp] theorem State.cycleCut_senses (s : State) (n : SenseNo) (l : Leg) :
    (s.cycleCut n l).senses = s.senses := by
  unfold State.cycleCut; dsimp only; repeat' split
  all_goals simp
@[simp] theorem State.cycleCut_faultN (s : State) (n : SenseNo) (l : Leg) :
    (s.cycleCut n l).faultN = s.faultN := by
  unfold State.cycleCut; dsimp only; repeat' split
  all_goals simp
@[simp] theorem State.cycleCut_supply (s : State) (n : SenseNo) (l : Leg) :
    (s.cycleCut n l).supply = s.supply := by
  unfold State.cycleCut; dsimp only; repeat' split
  all_goals simp
@[simp] theorem State.cycleCut_time (s : State) (n : SenseNo) (l : Leg) :
    (s.cycleCut n l).time = s.time := by
  unfold State.cycleCut; dsimp only; repeat' split
  all_goals simp

/-! `State.activate` writes ports, senses, seqs, stages, trips, units only. -/

@[simp] theorem State.activate_pending (s : State) (n : SenseNo) :
    (s.activate n).pending = s.pending := by
  unfold State.activate; dsimp only; repeat' split
  all_goals simp
@[simp] theorem State.activate_cause (s : State) (n : SenseNo) :
    (s.activate n).cause = s.cause := by
  unfold State.activate; dsimp only; repeat' split
  all_goals simp
@[simp] theorem State.activate_setup (s : State) (n : SenseNo) :
    (s.activate n).setup = s.setup := by
  unfold State.activate; dsimp only; repeat' split
  all_goals simp
@[simp] theorem State.activate_faultN (s : State) (n : SenseNo) :
    (s.activate n).faultN = s.faultN := by
  unfold State.activate; dsimp only; repeat' split
  all_goals simp
@[simp] theorem State.activate_supply (s : State) (n : SenseNo) :
    (s.activate n).supply = s.supply := by
  unfold State.activate; dsimp only; repeat' split
  all_goals simp
@[simp] theorem State.activate_time (s : State) (n : SenseNo) :
    (s.activate n).time = s.time := by
  unfold State.activate; dsimp only; repeat' split
  all_goals simp

/-! `State.sample` writes ports, senses, seqs, stages, trips, units only. -/

@[simp] theorem State.sample_pending (s : State) (n : SenseNo) (v : Level) :
    (s.sample n v).pending = s.pending := by
  unfold State.sample; dsimp only; repeat' split
  all_goals simp
@[simp] theorem State.sample_cause (s : State) (n : SenseNo) (v : Level) :
    (s.sample n v).cause = s.cause := by
  unfold State.sample; dsimp only; repeat' split
  all_goals simp
@[simp] theorem State.sample_setup (s : State) (n : SenseNo) (v : Level) :
    (s.sample n v).setup = s.setup := by
  unfold State.sample; dsimp only; repeat' split
  all_goals simp
@[simp] theorem State.sample_faultN (s : State) (n : SenseNo) (v : Level) :
    (s.sample n v).faultN = s.faultN := by
  unfold State.sample; dsimp only; repeat' split
  all_goals simp
@[simp] theorem State.sample_supply (s : State) (n : SenseNo) (v : Level) :
    (s.sample n v).supply = s.supply := by
  unfold State.sample; dsimp only; repeat' split
  all_goals simp
@[simp] theorem State.sample_time (s : State) (n : SenseNo) (v : Level) :
    (s.sample n v).time = s.time := by
  unfold State.sample; dsimp only; repeat' split
  all_goals simp

/-! `State.leaveGood` writes ports, seqs, stages, supply, units only. -/

@[simp] theorem State.leaveGood_pending (s : State) :
    (s.leaveGood).pending = s.pending := by
  unfold State.leaveGood; simp
@[simp] theorem State.leaveGood_cause (s : State) :
    (s.leaveGood).cause = s.cause := by
  unfold State.leaveGood; simp
@[simp] theorem State.leaveGood_setup (s : State) :
    (s.leaveGood).setup = s.setup := by
  unfold State.leaveGood; simp
@[simp] theorem State.leaveGood_senses (s : State) :
    (s.leaveGood).senses = s.senses := by
  unfold State.leaveGood; simp
@[simp] theorem State.leaveGood_trips (s : State) :
    (s.leaveGood).trips = s.trips := by
  unfold State.leaveGood; simp
@[simp] theorem State.leaveGood_faultN (s : State) :
    (s.leaveGood).faultN = s.faultN := by
  unfold State.leaveGood; simp
@[simp] theorem State.leaveGood_time (s : State) :
    (s.leaveGood).time = s.time := by
  unfold State.leaveGood; simp

/-! `State.enterGood` writes ports, stages, supply only. -/

@[simp] theorem State.enterGood_pending (s : State) :
    (s.enterGood).pending = s.pending := by
  unfold State.enterGood; simp
@[simp] theorem State.enterGood_cause (s : State) :
    (s.enterGood).cause = s.cause := by
  unfold State.enterGood; simp
@[simp] theorem State.enterGood_setup (s : State) :
    (s.enterGood).setup = s.setup := by
  unfold State.enterGood; simp
@[simp] theorem State.enterGood_units (s : State) :
    (s.enterGood).units = s.units := by
  unfold State.enterGood; simp
@[simp] theorem State.enterGood_seqs (s : State) :
    (s.enterGood).seqs = s.seqs := by
  unfold State.enterGood; simp
@[simp] theorem State.enterGood_senses (s : State) :
    (s.enterGood).senses = s.senses := by
  unfold State.enterGood; simp
@[simp] theorem State.enterGood_trips (s : State) :
    (s.enterGood).trips = s.trips := by
  unfold State.enterGood; simp
@[simp] theorem State.enterGood_faultN (s : State) :
    (s.enterGood).faultN = s.faultN := by
  unfold State.enterGood; simp
@[simp] theorem State.enterGood_time (s : State) :
    (s.enterGood).time = s.time := by
  unfold State.enterGood; simp

/-! `State.finish` writes ports only. -/

@[simp] theorem State.finish_pending (s : State) (p : Port) (o : List Byte) (n : Nat) :
    (s.finish p o n).pending = s.pending := by
  unfold State.finish; simp
@[simp] theorem State.finish_cause (s : State) (p : Port) (o : List Byte) (n : Nat) :
    (s.finish p o n).cause = s.cause := by
  unfold State.finish; simp
@[simp] theorem State.finish_setup (s : State) (p : Port) (o : List Byte) (n : Nat) :
    (s.finish p o n).setup = s.setup := by
  unfold State.finish; simp
@[simp] theorem State.finish_units (s : State) (p : Port) (o : List Byte) (n : Nat) :
    (s.finish p o n).units = s.units := by
  unfold State.finish; simp
@[simp] theorem State.finish_seqs (s : State) (p : Port) (o : List Byte) (n : Nat) :
    (s.finish p o n).seqs = s.seqs := by
  unfold State.finish; simp
@[simp] theorem State.finish_stages (s : State) (p : Port) (o : List Byte) (n : Nat) :
    (s.finish p o n).stages = s.stages := by
  unfold State.finish; simp
@[simp] theorem State.finish_senses (s : State) (p : Port) (o : List Byte) (n : Nat) :
    (s.finish p o n).senses = s.senses := by
  unfold State.finish; simp
@[simp] theorem State.finish_trips (s : State) (p : Port) (o : List Byte) (n : Nat) :
    (s.finish p o n).trips = s.trips := by
  unfold State.finish; simp
@[simp] theorem State.finish_faultN (s : State) (p : Port) (o : List Byte) (n : Nat) :
    (s.finish p o n).faultN = s.faultN := by
  unfold State.finish; simp
@[simp] theorem State.finish_supply (s : State) (p : Port) (o : List Byte) (n : Nat) :
    (s.finish p o n).supply = s.supply := by
  unfold State.finish; simp
@[simp] theorem State.finish_time (s : State) (p : Port) (o : List Byte) (n : Nat) :
    (s.finish p o n).time = s.time := by
  unfold State.finish; simp

/-! `State.dropFrame` writes ports only. -/

@[simp] theorem State.dropFrame_pending (s : State) (p : Port) :
    (s.dropFrame p).pending = s.pending := by
  unfold State.dropFrame; simp
@[simp] theorem State.dropFrame_cause (s : State) (p : Port) :
    (s.dropFrame p).cause = s.cause := by
  unfold State.dropFrame; simp
@[simp] theorem State.dropFrame_setup (s : State) (p : Port) :
    (s.dropFrame p).setup = s.setup := by
  unfold State.dropFrame; simp
@[simp] theorem State.dropFrame_units (s : State) (p : Port) :
    (s.dropFrame p).units = s.units := by
  unfold State.dropFrame; simp
@[simp] theorem State.dropFrame_seqs (s : State) (p : Port) :
    (s.dropFrame p).seqs = s.seqs := by
  unfold State.dropFrame; simp
@[simp] theorem State.dropFrame_stages (s : State) (p : Port) :
    (s.dropFrame p).stages = s.stages := by
  unfold State.dropFrame; simp
@[simp] theorem State.dropFrame_senses (s : State) (p : Port) :
    (s.dropFrame p).senses = s.senses := by
  unfold State.dropFrame; simp
@[simp] theorem State.dropFrame_trips (s : State) (p : Port) :
    (s.dropFrame p).trips = s.trips := by
  unfold State.dropFrame; simp
@[simp] theorem State.dropFrame_faultN (s : State) (p : Port) :
    (s.dropFrame p).faultN = s.faultN := by
  unfold State.dropFrame; simp
@[simp] theorem State.dropFrame_supply (s : State) (p : Port) :
    (s.dropFrame p).supply = s.supply := by
  unfold State.dropFrame; simp
@[simp] theorem State.dropFrame_time (s : State) (p : Port) :
    (s.dropFrame p).time = s.time := by
  unfold State.dropFrame; simp

/-! `State.riseAfterReset` writes ports only. -/

@[simp] theorem State.riseAfterReset_pending (s : State) (p : Port) :
    (s.riseAfterReset p).pending = s.pending := by
  unfold State.riseAfterReset; simp
@[simp] theorem State.riseAfterReset_cause (s : State) (p : Port) :
    (s.riseAfterReset p).cause = s.cause := by
  unfold State.riseAfterReset; simp
@[simp] theorem State.riseAfterReset_setup (s : State) (p : Port) :
    (s.riseAfterReset p).setup = s.setup := by
  unfold State.riseAfterReset; simp
@[simp] theorem State.riseAfterReset_units (s : State) (p : Port) :
    (s.riseAfterReset p).units = s.units := by
  unfold State.riseAfterReset; simp
@[simp] theorem State.riseAfterReset_seqs (s : State) (p : Port) :
    (s.riseAfterReset p).seqs = s.seqs := by
  unfold State.riseAfterReset; simp
@[simp] theorem State.riseAfterReset_stages (s : State) (p : Port) :
    (s.riseAfterReset p).stages = s.stages := by
  unfold State.riseAfterReset; simp
@[simp] theorem State.riseAfterReset_senses (s : State) (p : Port) :
    (s.riseAfterReset p).senses = s.senses := by
  unfold State.riseAfterReset; simp
@[simp] theorem State.riseAfterReset_trips (s : State) (p : Port) :
    (s.riseAfterReset p).trips = s.trips := by
  unfold State.riseAfterReset; simp
@[simp] theorem State.riseAfterReset_faultN (s : State) (p : Port) :
    (s.riseAfterReset p).faultN = s.faultN := by
  unfold State.riseAfterReset; simp
@[simp] theorem State.riseAfterReset_supply (s : State) (p : Port) :
    (s.riseAfterReset p).supply = s.supply := by
  unfold State.riseAfterReset; simp
@[simp] theorem State.riseAfterReset_time (s : State) (p : Port) :
    (s.riseAfterReset p).time = s.time := by
  unfold State.riseAfterReset; simp

/-! `State.resetUnitFor` writes ports, seqs, stages, units only. -/

@[simp] theorem State.resetUnitFor_pending (s : State) (p : Port) (u : UnitNo) :
    (s.resetUnitFor p u).pending = s.pending := by
  unfold State.resetUnitFor; dsimp only; repeat' split
  all_goals simp
@[simp] theorem State.resetUnitFor_cause (s : State) (p : Port) (u : UnitNo) :
    (s.resetUnitFor p u).cause = s.cause := by
  unfold State.resetUnitFor; dsimp only; repeat' split
  all_goals simp
@[simp] theorem State.resetUnitFor_setup (s : State) (p : Port) (u : UnitNo) :
    (s.resetUnitFor p u).setup = s.setup := by
  unfold State.resetUnitFor; dsimp only; repeat' split
  all_goals simp
@[simp] theorem State.resetUnitFor_senses (s : State) (p : Port) (u : UnitNo) :
    (s.resetUnitFor p u).senses = s.senses := by
  unfold State.resetUnitFor; dsimp only; repeat' split
  all_goals simp
@[simp] theorem State.resetUnitFor_trips (s : State) (p : Port) (u : UnitNo) :
    (s.resetUnitFor p u).trips = s.trips := by
  unfold State.resetUnitFor; dsimp only; repeat' split
  all_goals simp
@[simp] theorem State.resetUnitFor_faultN (s : State) (p : Port) (u : UnitNo) :
    (s.resetUnitFor p u).faultN = s.faultN := by
  unfold State.resetUnitFor; dsimp only; repeat' split
  all_goals simp
@[simp] theorem State.resetUnitFor_supply (s : State) (p : Port) (u : UnitNo) :
    (s.resetUnitFor p u).supply = s.supply := by
  unfold State.resetUnitFor; dsimp only; repeat' split
  all_goals simp
@[simp] theorem State.resetUnitFor_time (s : State) (p : Port) (u : UnitNo) :
    (s.resetUnitFor p u).time = s.time := by
  unfold State.resetUnitFor; dsimp only; repeat' split
  all_goals simp

/-! `State.dropLockOf` writes setup only. -/

@[simp] theorem State.dropLockOf_pending (s : State) (p : Port) :
    (s.dropLockOf p).pending = s.pending := by
  unfold State.dropLockOf; split <;> simp
@[simp] theorem State.dropLockOf_ports (s : State) (p : Port) :
    (s.dropLockOf p).ports = s.ports := by
  unfold State.dropLockOf; split <;> simp
@[simp] theorem State.dropLockOf_cause (s : State) (p : Port) :
    (s.dropLockOf p).cause = s.cause := by
  unfold State.dropLockOf; split <;> simp
@[simp] theorem State.dropLockOf_units (s : State) (p : Port) :
    (s.dropLockOf p).units = s.units := by
  unfold State.dropLockOf; split <;> simp
@[simp] theorem State.dropLockOf_seqs (s : State) (p : Port) :
    (s.dropLockOf p).seqs = s.seqs := by
  unfold State.dropLockOf; split <;> simp
@[simp] theorem State.dropLockOf_stages (s : State) (p : Port) :
    (s.dropLockOf p).stages = s.stages := by
  unfold State.dropLockOf; split <;> simp
@[simp] theorem State.dropLockOf_senses (s : State) (p : Port) :
    (s.dropLockOf p).senses = s.senses := by
  unfold State.dropLockOf; split <;> simp
@[simp] theorem State.dropLockOf_trips (s : State) (p : Port) :
    (s.dropLockOf p).trips = s.trips := by
  unfold State.dropLockOf; split <;> simp
@[simp] theorem State.dropLockOf_faultN (s : State) (p : Port) :
    (s.dropLockOf p).faultN = s.faultN := by
  unfold State.dropLockOf; split <;> simp
@[simp] theorem State.dropLockOf_supply (s : State) (p : Port) :
    (s.dropLockOf p).supply = s.supply := by
  unfold State.dropLockOf; split <;> simp
@[simp] theorem State.dropLockOf_time (s : State) (p : Port) :
    (s.dropLockOf p).time = s.time := by
  unfold State.dropLockOf; split <;> simp

/-! `State.portReset` writes ports, seqs, setup, stages, units only. -/

@[simp] theorem State.portReset_pending (s : State) (p : Port) (q : Byte) :
    (s.portReset p q).pending = s.pending := by
  simp [State.portReset, four]
@[simp] theorem State.portReset_cause (s : State) (p : Port) (q : Byte) :
    (s.portReset p q).cause = s.cause := by
  simp [State.portReset, four]
@[simp] theorem State.portReset_senses (s : State) (p : Port) (q : Byte) :
    (s.portReset p q).senses = s.senses := by
  simp [State.portReset, four]
@[simp] theorem State.portReset_trips (s : State) (p : Port) (q : Byte) :
    (s.portReset p q).trips = s.trips := by
  simp [State.portReset, four]
@[simp] theorem State.portReset_faultN (s : State) (p : Port) (q : Byte) :
    (s.portReset p q).faultN = s.faultN := by
  simp [State.portReset, four]
@[simp] theorem State.portReset_supply (s : State) (p : Port) (q : Byte) :
    (s.portReset p q).supply = s.supply := by
  simp [State.portReset, four]
@[simp] theorem State.portReset_time (s : State) (p : Port) (q : Byte) :
    (s.portReset p q).time = s.time := by
  simp [State.portReset, four]

/-! `State.setUnitMap` writes setup, trips, units only. -/

@[simp] theorem State.setUnitMap_pending (s : State) (m : Four UnitNo) :
    (s.setUnitMap m).pending = s.pending := rfl
@[simp] theorem State.setUnitMap_ports (s : State) (m : Four UnitNo) :
    (s.setUnitMap m).ports = s.ports := rfl
@[simp] theorem State.setUnitMap_cause (s : State) (m : Four UnitNo) :
    (s.setUnitMap m).cause = s.cause := rfl
@[simp] theorem State.setUnitMap_seqs (s : State) (m : Four UnitNo) :
    (s.setUnitMap m).seqs = s.seqs := rfl
@[simp] theorem State.setUnitMap_stages (s : State) (m : Four UnitNo) :
    (s.setUnitMap m).stages = s.stages := rfl
@[simp] theorem State.setUnitMap_senses (s : State) (m : Four UnitNo) :
    (s.setUnitMap m).senses = s.senses := rfl
@[simp] theorem State.setUnitMap_faultN (s : State) (m : Four UnitNo) :
    (s.setUnitMap m).faultN = s.faultN := rfl
@[simp] theorem State.setUnitMap_supply (s : State) (m : Four UnitNo) :
    (s.setUnitMap m).supply = s.supply := rfl
@[simp] theorem State.setUnitMap_time (s : State) (m : Four UnitNo) :
    (s.setUnitMap m).time = s.time := rfl

/-! `State.setLegEntry` writes setup only. -/

@[simp] theorem State.setLegEntry_pending (s : State) (l : Leg) (e : LegEntry) :
    (s.setLegEntry l e).pending = s.pending := rfl
@[simp] theorem State.setLegEntry_ports (s : State) (l : Leg) (e : LegEntry) :
    (s.setLegEntry l e).ports = s.ports := rfl
@[simp] theorem State.setLegEntry_cause (s : State) (l : Leg) (e : LegEntry) :
    (s.setLegEntry l e).cause = s.cause := rfl
@[simp] theorem State.setLegEntry_units (s : State) (l : Leg) (e : LegEntry) :
    (s.setLegEntry l e).units = s.units := rfl
@[simp] theorem State.setLegEntry_seqs (s : State) (l : Leg) (e : LegEntry) :
    (s.setLegEntry l e).seqs = s.seqs := rfl
@[simp] theorem State.setLegEntry_stages (s : State) (l : Leg) (e : LegEntry) :
    (s.setLegEntry l e).stages = s.stages := rfl
@[simp] theorem State.setLegEntry_senses (s : State) (l : Leg) (e : LegEntry) :
    (s.setLegEntry l e).senses = s.senses := rfl
@[simp] theorem State.setLegEntry_trips (s : State) (l : Leg) (e : LegEntry) :
    (s.setLegEntry l e).trips = s.trips := rfl
@[simp] theorem State.setLegEntry_faultN (s : State) (l : Leg) (e : LegEntry) :
    (s.setLegEntry l e).faultN = s.faultN := rfl
@[simp] theorem State.setLegEntry_supply (s : State) (l : Leg) (e : LegEntry) :
    (s.setLegEntry l e).supply = s.supply := rfl
@[simp] theorem State.setLegEntry_time (s : State) (l : Leg) (e : LegEntry) :
    (s.setLegEntry l e).time = s.time := rfl

/-! `State.setUnitEntry` writes setup only. -/

@[simp] theorem State.setUnitEntry_pending (s : State) (u : UnitNo) (e : UnitEntry) :
    (s.setUnitEntry u e).pending = s.pending := rfl
@[simp] theorem State.setUnitEntry_ports (s : State) (u : UnitNo) (e : UnitEntry) :
    (s.setUnitEntry u e).ports = s.ports := rfl
@[simp] theorem State.setUnitEntry_cause (s : State) (u : UnitNo) (e : UnitEntry) :
    (s.setUnitEntry u e).cause = s.cause := rfl
@[simp] theorem State.setUnitEntry_units (s : State) (u : UnitNo) (e : UnitEntry) :
    (s.setUnitEntry u e).units = s.units := rfl
@[simp] theorem State.setUnitEntry_seqs (s : State) (u : UnitNo) (e : UnitEntry) :
    (s.setUnitEntry u e).seqs = s.seqs := rfl
@[simp] theorem State.setUnitEntry_stages (s : State) (u : UnitNo) (e : UnitEntry) :
    (s.setUnitEntry u e).stages = s.stages := rfl
@[simp] theorem State.setUnitEntry_senses (s : State) (u : UnitNo) (e : UnitEntry) :
    (s.setUnitEntry u e).senses = s.senses := rfl
@[simp] theorem State.setUnitEntry_trips (s : State) (u : UnitNo) (e : UnitEntry) :
    (s.setUnitEntry u e).trips = s.trips := rfl
@[simp] theorem State.setUnitEntry_faultN (s : State) (u : UnitNo) (e : UnitEntry) :
    (s.setUnitEntry u e).faultN = s.faultN := rfl
@[simp] theorem State.setUnitEntry_supply (s : State) (u : UnitNo) (e : UnitEntry) :
    (s.setUnitEntry u e).supply = s.supply := rfl
@[simp] theorem State.setUnitEntry_time (s : State) (u : UnitNo) (e : UnitEntry) :
    (s.setUnitEntry u e).time = s.time := rfl

/-! `State.setSenseEntry` writes setup only. -/

@[simp] theorem State.setSenseEntry_pending (s : State) (n : SenseNo) (e : SenseEntry) :
    (s.setSenseEntry n e).pending = s.pending := rfl
@[simp] theorem State.setSenseEntry_ports (s : State) (n : SenseNo) (e : SenseEntry) :
    (s.setSenseEntry n e).ports = s.ports := rfl
@[simp] theorem State.setSenseEntry_cause (s : State) (n : SenseNo) (e : SenseEntry) :
    (s.setSenseEntry n e).cause = s.cause := rfl
@[simp] theorem State.setSenseEntry_units (s : State) (n : SenseNo) (e : SenseEntry) :
    (s.setSenseEntry n e).units = s.units := rfl
@[simp] theorem State.setSenseEntry_seqs (s : State) (n : SenseNo) (e : SenseEntry) :
    (s.setSenseEntry n e).seqs = s.seqs := rfl
@[simp] theorem State.setSenseEntry_stages (s : State) (n : SenseNo) (e : SenseEntry) :
    (s.setSenseEntry n e).stages = s.stages := rfl
@[simp] theorem State.setSenseEntry_senses (s : State) (n : SenseNo) (e : SenseEntry) :
    (s.setSenseEntry n e).senses = s.senses := rfl
@[simp] theorem State.setSenseEntry_trips (s : State) (n : SenseNo) (e : SenseEntry) :
    (s.setSenseEntry n e).trips = s.trips := rfl
@[simp] theorem State.setSenseEntry_faultN (s : State) (n : SenseNo) (e : SenseEntry) :
    (s.setSenseEntry n e).faultN = s.faultN := rfl
@[simp] theorem State.setSenseEntry_supply (s : State) (n : SenseNo) (e : SenseEntry) :
    (s.setSenseEntry n e).supply = s.supply := rfl
@[simp] theorem State.setSenseEntry_time (s : State) (n : SenseNo) (e : SenseEntry) :
    (s.setSenseEntry n e).time = s.time := rfl

/-! `State.enterRun` writes senses, setup, trips, units only. -/

@[simp] theorem State.enterRun_pending (s : State) :
    (s.enterRun).pending = s.pending := rfl
@[simp] theorem State.enterRun_ports (s : State) :
    (s.enterRun).ports = s.ports := rfl
@[simp] theorem State.enterRun_cause (s : State) :
    (s.enterRun).cause = s.cause := rfl
@[simp] theorem State.enterRun_seqs (s : State) :
    (s.enterRun).seqs = s.seqs := rfl
@[simp] theorem State.enterRun_stages (s : State) :
    (s.enterRun).stages = s.stages := rfl
@[simp] theorem State.enterRun_faultN (s : State) :
    (s.enterRun).faultN = s.faultN := rfl
@[simp] theorem State.enterRun_supply (s : State) :
    (s.enterRun).supply = s.supply := rfl
@[simp] theorem State.enterRun_time (s : State) :
    (s.enterRun).time = s.time := rfl

/-! `State.faultCheck` writes ports, seqs, stages, trips, units only. -/

@[simp] theorem State.faultCheck_pending (s : State) :
    (s.faultCheck).pending = s.pending := by
  unfold State.faultCheck; split <;> simp
@[simp] theorem State.faultCheck_cause (s : State) :
    (s.faultCheck).cause = s.cause := by
  unfold State.faultCheck; split <;> simp
@[simp] theorem State.faultCheck_setup (s : State) :
    (s.faultCheck).setup = s.setup := by
  unfold State.faultCheck; split <;> simp
@[simp] theorem State.faultCheck_senses (s : State) :
    (s.faultCheck).senses = s.senses := by
  unfold State.faultCheck; split <;> simp
@[simp] theorem State.faultCheck_faultN (s : State) :
    (s.faultCheck).faultN = s.faultN := by
  unfold State.faultCheck; split <;> simp
@[simp] theorem State.faultCheck_supply (s : State) :
    (s.faultCheck).supply = s.supply := by
  unfold State.faultCheck; split <;> simp
@[simp] theorem State.faultCheck_time (s : State) :
    (s.faultCheck).time = s.time := by
  unfold State.faultCheck; split <;> simp

/-! `State.joinWait` writes units only. -/

@[simp] theorem State.joinWait_pending (s : State) (u : UnitNo) (w : WaitEntry) :
    (s.joinWait u w).pending = s.pending := rfl
@[simp] theorem State.joinWait_ports (s : State) (u : UnitNo) (w : WaitEntry) :
    (s.joinWait u w).ports = s.ports := rfl
@[simp] theorem State.joinWait_cause (s : State) (u : UnitNo) (w : WaitEntry) :
    (s.joinWait u w).cause = s.cause := rfl
@[simp] theorem State.joinWait_setup (s : State) (u : UnitNo) (w : WaitEntry) :
    (s.joinWait u w).setup = s.setup := rfl
@[simp] theorem State.joinWait_seqs (s : State) (u : UnitNo) (w : WaitEntry) :
    (s.joinWait u w).seqs = s.seqs := rfl
@[simp] theorem State.joinWait_stages (s : State) (u : UnitNo) (w : WaitEntry) :
    (s.joinWait u w).stages = s.stages := rfl
@[simp] theorem State.joinWait_senses (s : State) (u : UnitNo) (w : WaitEntry) :
    (s.joinWait u w).senses = s.senses := rfl
@[simp] theorem State.joinWait_trips (s : State) (u : UnitNo) (w : WaitEntry) :
    (s.joinWait u w).trips = s.trips := rfl
@[simp] theorem State.joinWait_faultN (s : State) (u : UnitNo) (w : WaitEntry) :
    (s.joinWait u w).faultN = s.faultN := rfl
@[simp] theorem State.joinWait_supply (s : State) (u : UnitNo) (w : WaitEntry) :
    (s.joinWait u w).supply = s.supply := rfl
@[simp] theorem State.joinWait_time (s : State) (u : UnitNo) (w : WaitEntry) :
    (s.joinWait u w).time = s.time := rfl

/-! `State.leaveWait` writes units only. -/

@[simp] theorem State.leaveWait_pending (s : State) (u : UnitNo) (p : Port) :
    (s.leaveWait u p).pending = s.pending := rfl
@[simp] theorem State.leaveWait_ports (s : State) (u : UnitNo) (p : Port) :
    (s.leaveWait u p).ports = s.ports := rfl
@[simp] theorem State.leaveWait_cause (s : State) (u : UnitNo) (p : Port) :
    (s.leaveWait u p).cause = s.cause := rfl
@[simp] theorem State.leaveWait_setup (s : State) (u : UnitNo) (p : Port) :
    (s.leaveWait u p).setup = s.setup := rfl
@[simp] theorem State.leaveWait_seqs (s : State) (u : UnitNo) (p : Port) :
    (s.leaveWait u p).seqs = s.seqs := rfl
@[simp] theorem State.leaveWait_stages (s : State) (u : UnitNo) (p : Port) :
    (s.leaveWait u p).stages = s.stages := rfl
@[simp] theorem State.leaveWait_senses (s : State) (u : UnitNo) (p : Port) :
    (s.leaveWait u p).senses = s.senses := rfl
@[simp] theorem State.leaveWait_trips (s : State) (u : UnitNo) (p : Port) :
    (s.leaveWait u p).trips = s.trips := rfl
@[simp] theorem State.leaveWait_faultN (s : State) (u : UnitNo) (p : Port) :
    (s.leaveWait u p).faultN = s.faultN := rfl
@[simp] theorem State.leaveWait_supply (s : State) (u : UnitNo) (p : Port) :
    (s.leaveWait u p).supply = s.supply := rfl
@[simp] theorem State.leaveWait_time (s : State) (u : UnitNo) (p : Port) :
    (s.leaveWait u p).time = s.time := rfl

/-! `State.finishLease` writes ports, stages, units only. -/

@[simp] theorem State.finishLease_pending (s : State) (u : UnitNo) :
    (s.finishLease u).pending = s.pending := by
  unfold State.finishLease; simp
@[simp] theorem State.finishLease_cause (s : State) (u : UnitNo) :
    (s.finishLease u).cause = s.cause := by
  unfold State.finishLease; simp
@[simp] theorem State.finishLease_setup (s : State) (u : UnitNo) :
    (s.finishLease u).setup = s.setup := by
  unfold State.finishLease; simp
@[simp] theorem State.finishLease_seqs (s : State) (u : UnitNo) :
    (s.finishLease u).seqs = s.seqs := by
  unfold State.finishLease; simp
@[simp] theorem State.finishLease_senses (s : State) (u : UnitNo) :
    (s.finishLease u).senses = s.senses := by
  unfold State.finishLease; simp
@[simp] theorem State.finishLease_trips (s : State) (u : UnitNo) :
    (s.finishLease u).trips = s.trips := by
  unfold State.finishLease; simp
@[simp] theorem State.finishLease_faultN (s : State) (u : UnitNo) :
    (s.finishLease u).faultN = s.faultN := by
  unfold State.finishLease; simp
@[simp] theorem State.finishLease_supply (s : State) (u : UnitNo) :
    (s.finishLease u).supply = s.supply := by
  unfold State.finishLease; simp
@[simp] theorem State.finishLease_time (s : State) (u : UnitNo) :
    (s.finishLease u).time = s.time := by
  unfold State.finishLease; simp

/-! `State.appendSegment` writes seqs, stages only. -/

@[simp] theorem State.appendSegment_pending (s : State) (l : Leg) (g : Segment) :
    (s.appendSegment l g).pending = s.pending := by
  unfold State.appendSegment; dsimp only; split <;> simp
@[simp] theorem State.appendSegment_ports (s : State) (l : Leg) (g : Segment) :
    (s.appendSegment l g).ports = s.ports := by
  unfold State.appendSegment; dsimp only; split <;> simp
@[simp] theorem State.appendSegment_cause (s : State) (l : Leg) (g : Segment) :
    (s.appendSegment l g).cause = s.cause := by
  unfold State.appendSegment; dsimp only; split <;> simp
@[simp] theorem State.appendSegment_setup (s : State) (l : Leg) (g : Segment) :
    (s.appendSegment l g).setup = s.setup := by
  unfold State.appendSegment; dsimp only; split <;> simp
@[simp] theorem State.appendSegment_units (s : State) (l : Leg) (g : Segment) :
    (s.appendSegment l g).units = s.units := by
  unfold State.appendSegment; dsimp only; split <;> simp
@[simp] theorem State.appendSegment_senses (s : State) (l : Leg) (g : Segment) :
    (s.appendSegment l g).senses = s.senses := by
  unfold State.appendSegment; dsimp only; split <;> simp
@[simp] theorem State.appendSegment_trips (s : State) (l : Leg) (g : Segment) :
    (s.appendSegment l g).trips = s.trips := by
  unfold State.appendSegment; dsimp only; split <;> simp
@[simp] theorem State.appendSegment_faultN (s : State) (l : Leg) (g : Segment) :
    (s.appendSegment l g).faultN = s.faultN := by
  unfold State.appendSegment; dsimp only; split <;> simp
@[simp] theorem State.appendSegment_supply (s : State) (l : Leg) (g : Segment) :
    (s.appendSegment l g).supply = s.supply := by
  unfold State.appendSegment; dsimp only; split <;> simp
@[simp] theorem State.appendSegment_time (s : State) (l : Leg) (g : Segment) :
    (s.appendSegment l g).time = s.time := by
  unfold State.appendSegment; dsimp only; split <;> simp

/-! `State.flushAll` writes seqs, stages only. -/

@[simp] theorem State.flushAll_pending (s : State) (l : Leg) :
    (s.flushAll l).pending = s.pending := by
  unfold State.flushAll; dsimp only; split <;> simp
@[simp] theorem State.flushAll_ports (s : State) (l : Leg) :
    (s.flushAll l).ports = s.ports := by
  unfold State.flushAll; dsimp only; split <;> simp
@[simp] theorem State.flushAll_cause (s : State) (l : Leg) :
    (s.flushAll l).cause = s.cause := by
  unfold State.flushAll; dsimp only; split <;> simp
@[simp] theorem State.flushAll_setup (s : State) (l : Leg) :
    (s.flushAll l).setup = s.setup := by
  unfold State.flushAll; dsimp only; split <;> simp
@[simp] theorem State.flushAll_units (s : State) (l : Leg) :
    (s.flushAll l).units = s.units := by
  unfold State.flushAll; dsimp only; split <;> simp
@[simp] theorem State.flushAll_senses (s : State) (l : Leg) :
    (s.flushAll l).senses = s.senses := by
  unfold State.flushAll; dsimp only; split <;> simp
@[simp] theorem State.flushAll_trips (s : State) (l : Leg) :
    (s.flushAll l).trips = s.trips := by
  unfold State.flushAll; dsimp only; split <;> simp
@[simp] theorem State.flushAll_faultN (s : State) (l : Leg) :
    (s.flushAll l).faultN = s.faultN := by
  unfold State.flushAll; dsimp only; split <;> simp
@[simp] theorem State.flushAll_supply (s : State) (l : Leg) :
    (s.flushAll l).supply = s.supply := by
  unfold State.flushAll; dsimp only; split <;> simp
@[simp] theorem State.flushAll_time (s : State) (l : Leg) :
    (s.flushAll l).time = s.time := by
  unfold State.flushAll; dsimp only; split <;> simp

/-! `State.resetEscalation` writes seqs only. -/

@[simp] theorem State.resetEscalation_pending (s : State) (u : UnitNo) :
    (s.resetEscalation u).pending = s.pending := rfl
@[simp] theorem State.resetEscalation_ports (s : State) (u : UnitNo) :
    (s.resetEscalation u).ports = s.ports := rfl
@[simp] theorem State.resetEscalation_cause (s : State) (u : UnitNo) :
    (s.resetEscalation u).cause = s.cause := rfl
@[simp] theorem State.resetEscalation_setup (s : State) (u : UnitNo) :
    (s.resetEscalation u).setup = s.setup := rfl
@[simp] theorem State.resetEscalation_units (s : State) (u : UnitNo) :
    (s.resetEscalation u).units = s.units := rfl
@[simp] theorem State.resetEscalation_stages (s : State) (u : UnitNo) :
    (s.resetEscalation u).stages = s.stages := rfl
@[simp] theorem State.resetEscalation_senses (s : State) (u : UnitNo) :
    (s.resetEscalation u).senses = s.senses := rfl
@[simp] theorem State.resetEscalation_trips (s : State) (u : UnitNo) :
    (s.resetEscalation u).trips = s.trips := rfl
@[simp] theorem State.resetEscalation_faultN (s : State) (u : UnitNo) :
    (s.resetEscalation u).faultN = s.faultN := rfl
@[simp] theorem State.resetEscalation_supply (s : State) (u : UnitNo) :
    (s.resetEscalation u).supply = s.supply := rfl
@[simp] theorem State.resetEscalation_time (s : State) (u : UnitNo) :
    (s.resetEscalation u).time = s.time := rfl

/-! `State.clearTrip` writes seqs, stages, trips only. -/

@[simp] theorem State.clearTrip_pending (s : State) (u : UnitNo) :
    (s.clearTrip u).pending = s.pending := by
  unfold State.clearTrip; simp
@[simp] theorem State.clearTrip_ports (s : State) (u : UnitNo) :
    (s.clearTrip u).ports = s.ports := by
  unfold State.clearTrip; simp
@[simp] theorem State.clearTrip_cause (s : State) (u : UnitNo) :
    (s.clearTrip u).cause = s.cause := by
  unfold State.clearTrip; simp
@[simp] theorem State.clearTrip_setup (s : State) (u : UnitNo) :
    (s.clearTrip u).setup = s.setup := by
  unfold State.clearTrip; simp
@[simp] theorem State.clearTrip_units (s : State) (u : UnitNo) :
    (s.clearTrip u).units = s.units := by
  unfold State.clearTrip; simp
@[simp] theorem State.clearTrip_senses (s : State) (u : UnitNo) :
    (s.clearTrip u).senses = s.senses := by
  unfold State.clearTrip; simp
@[simp] theorem State.clearTrip_faultN (s : State) (u : UnitNo) :
    (s.clearTrip u).faultN = s.faultN := by
  unfold State.clearTrip; simp
@[simp] theorem State.clearTrip_supply (s : State) (u : UnitNo) :
    (s.clearTrip u).supply = s.supply := by
  unfold State.clearTrip; simp
@[simp] theorem State.clearTrip_time (s : State) (u : UnitNo) :
    (s.clearTrip u).time = s.time := by
  unfold State.clearTrip; simp

/-! `State.offerEdge` writes seqs, stages only. -/

@[simp] theorem State.offerEdge_pending (s : State) (l : Leg) :
    (s.offerEdge l).pending = s.pending := by
  unfold State.offerEdge; repeat' split
  all_goals simp
@[simp] theorem State.offerEdge_ports (s : State) (l : Leg) :
    (s.offerEdge l).ports = s.ports := by
  unfold State.offerEdge; repeat' split
  all_goals simp
@[simp] theorem State.offerEdge_cause (s : State) (l : Leg) :
    (s.offerEdge l).cause = s.cause := by
  unfold State.offerEdge; repeat' split
  all_goals simp
@[simp] theorem State.offerEdge_setup (s : State) (l : Leg) :
    (s.offerEdge l).setup = s.setup := by
  unfold State.offerEdge; repeat' split
  all_goals simp
@[simp] theorem State.offerEdge_units (s : State) (l : Leg) :
    (s.offerEdge l).units = s.units := by
  unfold State.offerEdge; repeat' split
  all_goals simp
@[simp] theorem State.offerEdge_senses (s : State) (l : Leg) :
    (s.offerEdge l).senses = s.senses := by
  unfold State.offerEdge; repeat' split
  all_goals simp
@[simp] theorem State.offerEdge_trips (s : State) (l : Leg) :
    (s.offerEdge l).trips = s.trips := by
  unfold State.offerEdge; repeat' split
  all_goals simp
@[simp] theorem State.offerEdge_faultN (s : State) (l : Leg) :
    (s.offerEdge l).faultN = s.faultN := by
  unfold State.offerEdge; repeat' split
  all_goals simp
@[simp] theorem State.offerEdge_supply (s : State) (l : Leg) :
    (s.offerEdge l).supply = s.supply := by
  unfold State.offerEdge; repeat' split
  all_goals simp
@[simp] theorem State.offerEdge_time (s : State) (l : Leg) :
    (s.offerEdge l).time = s.time := by
  unfold State.offerEdge; repeat' split
  all_goals simp

/-! `State.syncEdge` writes seqs, stages, time only. -/

@[simp] theorem State.syncEdge_pending (s : State) :
    (s.syncEdge).pending = s.pending := by
  simp [State.syncEdge, four]
@[simp] theorem State.syncEdge_ports (s : State) :
    (s.syncEdge).ports = s.ports := by
  simp [State.syncEdge, four]
@[simp] theorem State.syncEdge_cause (s : State) :
    (s.syncEdge).cause = s.cause := by
  simp [State.syncEdge, four]
@[simp] theorem State.syncEdge_setup (s : State) :
    (s.syncEdge).setup = s.setup := by
  simp [State.syncEdge, four]
@[simp] theorem State.syncEdge_units (s : State) :
    (s.syncEdge).units = s.units := by
  simp [State.syncEdge, four]
@[simp] theorem State.syncEdge_senses (s : State) :
    (s.syncEdge).senses = s.senses := by
  simp [State.syncEdge, four]
@[simp] theorem State.syncEdge_trips (s : State) :
    (s.syncEdge).trips = s.trips := by
  simp [State.syncEdge, four]
@[simp] theorem State.syncEdge_faultN (s : State) :
    (s.syncEdge).faultN = s.faultN := by
  simp [State.syncEdge, four]
@[simp] theorem State.syncEdge_supply (s : State) :
    (s.syncEdge).supply = s.supply := by
  simp [State.syncEdge, four]

/-! `State.tickUnit` writes ports, units only. -/

@[simp] theorem State.tickUnit_pending (s : State) (u : UnitNo) :
    (s.tickUnit u).pending = s.pending := by
  unfold State.tickUnit; dsimp only; split <;> simp
@[simp] theorem State.tickUnit_cause (s : State) (u : UnitNo) :
    (s.tickUnit u).cause = s.cause := by
  unfold State.tickUnit; dsimp only; split <;> simp
@[simp] theorem State.tickUnit_setup (s : State) (u : UnitNo) :
    (s.tickUnit u).setup = s.setup := by
  unfold State.tickUnit; dsimp only; split <;> simp
@[simp] theorem State.tickUnit_seqs (s : State) (u : UnitNo) :
    (s.tickUnit u).seqs = s.seqs := by
  unfold State.tickUnit; dsimp only; split <;> simp
@[simp] theorem State.tickUnit_stages (s : State) (u : UnitNo) :
    (s.tickUnit u).stages = s.stages := by
  unfold State.tickUnit; dsimp only; split <;> simp
@[simp] theorem State.tickUnit_senses (s : State) (u : UnitNo) :
    (s.tickUnit u).senses = s.senses := by
  unfold State.tickUnit; dsimp only; split <;> simp
@[simp] theorem State.tickUnit_trips (s : State) (u : UnitNo) :
    (s.tickUnit u).trips = s.trips := by
  unfold State.tickUnit; dsimp only; split <;> simp
@[simp] theorem State.tickUnit_faultN (s : State) (u : UnitNo) :
    (s.tickUnit u).faultN = s.faultN := by
  unfold State.tickUnit; dsimp only; split <;> simp
@[simp] theorem State.tickUnit_supply (s : State) (u : UnitNo) :
    (s.tickUnit u).supply = s.supply := by
  unfold State.tickUnit; dsimp only; split <;> simp
@[simp] theorem State.tickUnit_time (s : State) (u : UnitNo) :
    (s.tickUnit u).time = s.time := by
  unfold State.tickUnit; dsimp only; split <;> simp

end Sys2Proof.Machine
end

