-- ==== Sys2Proof/Laws/Ops.lean ====
section
/-! SUPPORT. What each shared operation does, said once: the port records after notices, the taking
of a command, and the lease operations by which a unit stops, is granted or leaves its lease. -/

namespace Sys2Proof.Machine

/-! ### Notices -/

@[simp] theorem PortRec.offerAll_nil (r : PortRec) (t : Stamp) : r.offerAll [] t = r := rfl
@[simp] theorem PortRec.offerAll_cons (r : PortRec) (n : Notice) (ns : List Notice) (t : Stamp) :
    r.offerAll (n :: ns) t = (r.offer n t).offerAll ns t := rfl
theorem PortRec.offerAll_append (r : PortRec) (a b : List Notice) (t : Stamp) :
    r.offerAll (a ++ b) t = (r.offerAll a t).offerAll b t := List.foldl_append

/-- What an offer can do: the notice joins the tail, or MISSED is set. -/
theorem PortRec.offer_cases (r : PortRec) (n : Notice) (t : Stamp) :
    (r.queue.length < 8 ∧ noticeCount r.queue < 7 ∧ r.offer n t = r.append (.notice n t)) ∨
      r.offer n t = r.loseNotice := by
  by_cases h : r.admitsNotice = true
  · have h' : r.queue.length < 8 ∧ noticeCount r.queue < 7 := of_decide_eq_true h
    exact .inl ⟨h'.1, h'.2, by simp [PortRec.offer, h]⟩
  · right; simp [PortRec.offer, h]

@[simp] theorem State.told_get (s : State) (ns : Port → List Notice) (k : Port) :
    (s.told ns).get k = (s.port k).offerAll (ns k) s.time.stamp := by simp [State.told]

@[simp] theorem State.told_nil (s : State) : s.told (fun _ => []) = s.ports := by
  apply Four.ext_get; intro i; simp [State.port]

/-- Notices reach the ports only through the records of the ports and the timestamp. -/
theorem State.told_congr (s s' : State) (ns : Port → List Notice) (hp : s'.ports = s.ports)
    (ht : s'.time = s.time) : s'.told ns = s.told ns := by
  simp [State.told, State.port, hp, ht]

theorem State.told_told (s s' : State) (a b : Port → List Notice) (hp : s'.ports = s.told a)
    (ht : s'.time = s.time) : s'.told b = s.told fun k => a k ++ b k := by
  apply Four.ext_get; intro i
  simp [PortRec.offerAll_append, State.port, hp, ht]

theorem State.notify_eq (s : State) (p : Port) (n : Notice) :
    s.notify p n = { s with ports := s.told (toPort (some p) [n]) } := by
  simp only [State.notify, State.setPort, State.mk.injEq, true_and, and_true]
  apply Four.ext_get; intro i
  rw [Four.get_set, State.told_get]
  by_cases h : i = p
  · subst h; simp [toPort]
  · simp [h, Ne.symm h, toPort, State.port]

theorem State.notifyOpt_eq (s : State) (p : Option Port) (n : Notice) :
    s.notifyOpt p n = { s with ports := s.told (toPort p [n]) } := by
  cases p with
  | none =>
    have : s.told (toPort none [n]) = s.ports := s.told_nil
    rw [this]; rfl
  | some p => exact s.notify_eq p n

theorem State.notifyBoth_eq (s : State) (a b : Option Port) (n : Notice) :
    s.notifyBoth a b n = { s with ports := s.told (toBoth a b n) } := by
  unfold State.notifyBoth
  split
  · rename_i h; subst h
    rw [State.notifyOpt_eq]
    congr 1; congr 1; funext k; simp [toPort, toBoth]
  · rename_i h
    rw [State.notifyOpt_eq, State.notifyOpt_eq]
    simp only [State.mk.injEq, true_and, and_true]
    rw [State.told_told s { s with ports := s.told (toPort a [n]) } (toPort a [n]) _ rfl rfl]
    congr 1; funext k
    simp only [toPort, toBoth]
    by_cases ha : a = some k <;> by_cases hb : b = some k <;> simp_all

theorem State.broadcast_eq (s : State) (n : Notice) :
    s.broadcast n = { s with ports := s.told fun _ => [n] } := by
  simp only [State.broadcast, four, List.foldl_cons, List.foldl_nil, State.notify_eq,
    State.mk.injEq, true_and, and_true]
  apply Four.ext_get; intro i
  fin_cases i <;> simp [toPort, State.port]

/-! ### Transactions -/

theorem PortRec.offer_finish (r : PortRec) (n : Notice) (t : Stamp) (out : List Byte) (k : Nat) :
    (r.offer n t).finish out k = (r.finish out k).offer n t := by
  by_cases h : r.admitsNotice = true
  · have h' : (r.finish out k).admitsNotice = true := h
    rw [PortRec.offer, PortRec.offer, if_pos h, if_pos h']; rfl
  · have h' : ¬ (r.finish out k).admitsNotice = true := h
    rw [PortRec.offer, PortRec.offer, if_neg h, if_neg h']; rfl

theorem PortRec.offerAll_finish (ns : List Notice) (r : PortRec) (t : Stamp) (out : List Byte)
    (k : Nat) : (r.offerAll ns t).finish out k = (r.finish out k).offerAll ns t := by
  induction ns generalizing r with
  | nil => rfl
  | cons n ns ih => simp [ih, PortRec.offer_finish]

theorem PortRec.firstByte_command (r : PortRec) (b : Byte) (h : b ≠ 0x02) :
    r.firstByte b = { r.markShown with txn := .command, buffer := [b], byteCount := 1 } := if_neg h

/-- The taking of a command from an open port with room: the block carries it out on the port as the
rise leaves it, and the transaction ends. -/
theorem State.takeCommand_open (s : State) (p : Port) (c : Command) (carry : State → State)
    (h : (s.port p).openFor (commandCode c) = true) (hc : commandCode c ≠ 0x02) :
    ∃ r : PortRec, r.queue = (s.port p).queue ∧
      (∀ n, r.finish [] n = (s.port p).afterRise (s.statusItems p) [] n) ∧
      s.takeCommand p c carry =
        ((if r.queue.length < 8 then carry (s.setPort p r) else (s.setPort p r).dropFrame p).finish p
          [] (bodyLength c + 4)) := by
  revert h
  unfold PortRec.openFor State.takeCommand PortRec.blocked PortRec.reach
  cases hT : (s.port p).txn with
  | idle =>
    intro h
    simp only [Bool.not_eq_true'] at h
    refine ⟨(((s.port p).fall (s.statusItems p)).firstByte (commandCode c)).clearShown, ?_, ?_, ?_⟩
    · rw [PortRec.firstByte_command _ _ hc]
      simp [PortRec.clearShown, PortRec.fall, PortRec.markShown]
    · intro n
      rw [PortRec.firstByte_command _ _ hc]
      simp [PortRec.clearShown, PortRec.fall, PortRec.markShown, PortRec.finish, PortRec.afterRise, hT, PortRec.droppedAfter, PortRec.missedAfter,
        PortRec.capturedBy, State.statusItems]
    · simp [h, PortRec.hasRoom, Config.queueRoom]
  | firstByte =>
    intro _
    refine ⟨((s.port p).firstByte (commandCode c)).clearShown, ?_, ?_, ?_⟩
    · rw [PortRec.firstByte_command _ _ hc]
      simp [PortRec.clearShown, PortRec.markShown]
    · intro n
      rw [PortRec.firstByte_command _ _ hc]
      simp [PortRec.clearShown, PortRec.markShown, PortRec.finish, PortRec.afterRise, hT, PortRec.droppedAfter, PortRec.missedAfter,
        PortRec.capturedBy]
    · simp [PortRec.hasRoom, Config.queueRoom]
  | command =>
    intro h
    simp only [decide_eq_true_eq] at h
    refine ⟨(s.port p).clearShown, ?_, ?_, ?_⟩
    · simp [PortRec.clearShown]
    · intro n
      simp [PortRec.clearShown, PortRec.finish, PortRec.afterRise, hT, PortRec.droppedAfter,
        PortRec.missedAfter, PortRec.capturedBy]
    · simp [h, PortRec.hasRoom, Config.queueRoom]
  | read => intro h; exact absurd (of_decide_eq_true h) hc

theorem commandCode_ne_read (c : Command) : commandCode c ≠ 0x02 := by cases c <;> decide

/-- R155: what the taking of a command comes to, for an effect that sends the notices `ns` and
otherwise leads from `s` to `s'` whatever the port records are. -/
theorem State.command_completes (s s' : State) (p : Port) (c : Command) (seq : Byte)
    (respond : State → Response) (result : Result) (data : List Byte) (ns : Port → List Notice)
    (h : s.canTake p c)
    (hr : ∀ P : Four PortRec,
      (respond { s with ports := P }).result = result ∧
        (respond { s with ports := P }).data = data ∧
        ∀ Q : Four PortRec, (respond { s with ports := P }).effect { s with ports := Q } =
          { s' with ports := ({ s with ports := Q } : State).told ns }) :
    s.command p c seq respond =
      { s' with ports := s.answered p (bodyLength c + 4) (.reply c seq result data) ns } := by
  obtain ⟨ho, hq⟩ := h
  obtain ⟨r, hrq, hrf, he⟩ := s.takeCommand_open p c
    (fun s => s.answer p c seq (respond s)) ho (commandCode_ne_read c)
  rw [State.command, he, if_pos (by rw [hrq]; exact hq)]
  simp only [State.answer, State.place, State.setPort]
  obtain ⟨h1, h2, h3⟩ := hr (s.ports.set p r)
  simp only [h1, h2, h3, State.finish, State.setPort, State.mk.injEq, true_and, and_true,
    State.answered]
  apply Four.ext_get; intro i
  rw [Four.get_set, Four.get_tabulate]
  by_cases hi : i = p
  · subst hi
    simp only [if_true, State.port, State.told_get, Four.get_set_same, PortRec.offerAll_finish]
    congr 1
    have := hrf (bodyLength c + 4)
    simp only [State.port, State.statusItems] at this ⊢
    rw [← this]
    simp [PortRec.append, PortRec.finish, hrq, State.port]
  · simp [hi, State.port, Four.get_set]

/-! ### Leases -/

/-- A table is changed at one index, or at every index alike. -/
theorem Four.set_eq_mapIdx {α : Type} (t : Four α) (i : Fin 4) (x : α) :
    t.set i x = t.mapIdx fun j y => if j = i then x else y := by
  apply Four.ext_get; intro j; rw [Four.get_set, Four.get_mapIdx]

theorem Four.mapIdx_congr {α β : Type} (t : Four α) (f g : Fin 4 → α → β)
    (h : ∀ i, f i (t.get i) = g i (t.get i)) : t.mapIdx f = t.mapIdx g := by
  apply Four.ext_get; intro i; simpa using h i

@[simp] theorem Four.mapIdx_mapIdx {α β γ : Type} (t : Four α) (f : Fin 4 → α → β)
    (g : Fin 4 → β → γ) : (t.mapIdx f).mapIdx g = t.mapIdx fun i x => g i (f i x) := rfl

/-- R6, R13, R56: what a grant does. -/
theorem State.grant_eq (s : State) (u : UnitNo) (p : Port) (ms : Nat) :
    s.grant u p ms = s.granted u p ms (s.unit u).wait := by
  simp only [State.grant, State.restoreUnit, State.setStages, State.granted, State.setUnit,
    State.mk.injEq, true_and, and_true, UnitRec.grantTo]
  apply Four.mapIdx_congr; intro l
  by_cases h : s.unitOf l = u
  · subst h
    simp [State.drivePermitted, State.unitHeld, State.unitOf, State.unit, State.tripped,
      State.trip, State.legEntry, and_assoc]
  · have h' : ¬ s.setup.board.unitMap.get l = u := h
    simp [State.unitOf, h']

/-- The stage records that keep their values. -/
theorem Four.mapIdx_id {α : Type} (t : Four α) : (t.mapIdx fun _ x => x) = t := rfl

/-- The record of a unit that is entering QUIET (R2). -/
def UnitRec.entersQuiet (r : UnitRec) : Prop :=
  r.lease = .quiet ∧ r.owner = none ∧ r.releasing = none ∧ r.period = none ∧ r.remaining = 0 ∧
    r.leaseLowArmed = false

theorem UnitRec.toQuiet_entersQuiet (r : UnitRec) : r.toQuiet.entersQuiet := by
  simp [UnitRec.toQuiet, UnitRec.entersQuiet]

/-- R6: what the end of the quiet interval does with an empty wait list. -/
theorem State.endQuiet_nil (s : State) (u : UnitNo) (h : (s.unit u).wait = []) :
    s.endQuiet u = s.setUnit u { s.unit u with lease := .free, quiet := 0 } := by
  unfold State.endQuiet; rw [h]

/-- R6: what the end of the quiet interval does with a waiter. -/
theorem State.endQuiet_cons (s : State) (u : UnitNo) (w : WaitEntry) (rest : List WaitEntry)
    (h : (s.unit u).wait = w :: rest) :
    s.endQuiet u =
      { s.granted u w.port w.period rest with
        ports := s.told (toPort (some w.port)
          [.granted u w.period (s.tripped u) w.claimedAt]) } := by
  unfold State.endQuiet; rw [h]
  simp only [State.grant_eq, State.notify_eq]
  simp [State.granted, State.setUnit, State.told, State.port, State.unit, State.unitOf,
    State.tripped, State.trip, State.legEntry]
  rfl

/-- R4, R6: what the start of the quiet interval does, the quiet end of a quiet time of 0 within
it. -/
theorem State.startQuiet_eq (s : State) (u : UnitNo) (h : (s.unit u).entersQuiet) :
    s.startQuiet u =
      { s with
        units := s.units.set u (s.unitAfterLease u)
        stages := s.stages.mapIdx fun l st =>
          if s.unitOf l = u ∧ (s.unitAfterLease u).lease = .held ∧ s.tripped u = false ∧
              s.supply.state = .good ∧ s.setup.phase = .run then
            restStage (s.legEntry l) true st
          else st
        ports := s.told (s.grantTold u (s.tripped u)) } := by
  obtain ⟨h1, h2, h3, h4, h5, h6⟩ := h
  show (if (s.unitEntry u).quiet = 0 then
      (s.setUnit u { s.unit u with quiet := (s.unitEntry u).quiet }).endQuiet u
    else s.setUnit u { s.unit u with quiet := (s.unitEntry u).quiet }) = _
  generalize hr : ({ s.unit u with quiet := (s.unitEntry u).quiet } : UnitRec) = r
  have hu : (s.setUnit u r).unit u = r := by simp
  have hrw : r.wait = (s.unit u).wait := by rw [← hr]
  by_cases hz : (s.unitEntry u).quiet = 0
  · rw [if_pos hz]
    cases hw : (s.unit u).wait with
    | nil =>
      rw [State.endQuiet_nil _ _ (by rw [hu, hrw, hw]), hu]
      have hg : s.told (s.grantTold u (s.tripped u)) = s.ports := by simp [State.grantTold, hw]
      rw [hg]
      subst hr
      simp [State.unitAfterLease, hz, hw, State.setUnit, UnitRec.reset, Four.mapIdx_id, h2, h3,
        h4, h5, h6]
    | cons w rest =>
      rw [State.endQuiet_cons _ _ w rest (by rw [hu, hrw, hw])]
      have hg : s.grantTold u (s.tripped u) =
          toPort (some w.port) [.granted u w.period (s.tripped u) w.claimedAt] := by
        simp [State.grantTold, hw, hz]
      rw [hg]
      simp [State.unitAfterLease, hz, hw, State.granted, State.setUnit, State.told, State.port,
        State.unitOf, State.tripped, State.trip, State.legEntry]
      rfl
  · rw [if_neg hz]
    have hg : s.told (s.grantTold u (s.tripped u)) = s.ports := by
      unfold State.grantTold; split <;> simp [hz]
    rw [hg]
    subst hr
    simp [State.unitAfterLease, hz, h1, h2, h3, h4, h5, h6, Four.mapIdx_id, State.setUnit]

/-- R5: what an abort does. -/
theorem State.abort_eq (s : State) (u : UnitNo) (n : Option Notice) :
    s.abort u n =
      { s.aborted u with
        ports := s.told fun k =>
          (match n with
          | none => []
          | some n => toPort (s.unit u).holder [n] k) ++ s.grantTold u (s.tripped u) k } := by
  unfold State.abort
  dsimp only
  generalize hs₁ : ((s.setUnit u (s.unit u).toQuiet).stopUnit u) = s₁
  have hu : s₁.unit u = (s.unit u).toQuiet := by subst hs₁; simp [State.unit]
  have key : ∀ s₂ : State, s₂ = { s₁ with ports := s₂.ports } →
      s₂.startQuiet u = { s.aborted u with ports := s₂.told (s.grantTold u (s.tripped u)) } := by
    intro s₂ h₂
    have hu₂ : s₂.unit u = (s.unit u).toQuiet := by rw [h₂, ← hu]; rfl
    rw [State.startQuiet_eq s₂ u (by rw [hu₂]; exact UnitRec.toQuiet_entersQuiet _)]
    have hq : s₂.unitAfterLease u = s.unitAfterLease u := by
      have he : s₂.unitEntry u = s.unitEntry u := by rw [h₂]; subst hs₁; simp [State.unitEntry]
      simp [State.unitAfterLease, hu₂, he, UnitRec.toQuiet]
    have ht : s₂.grantTold u (s₂.tripped u) = s.grantTold u (s.tripped u) := by
      have he : s₂.unitEntry u = s.unitEntry u := by rw [h₂]; subst hs₁; simp [State.unitEntry]
      have ht : s₂.tripped u = s.tripped u := by
        rw [h₂]; subst hs₁; simp [State.tripped, State.trip]
      simp [State.grantTold, hu₂, he, ht, UnitRec.toQuiet]
    rw [hq, ht]
    rw [h₂]
    subst hs₁
    simp only [State.aborted, State.legsAfterLease, State.stopUnit, State.onUnitStages,
      State.setStages, State.setSeqs, State.setUnit, State.mk.injEq, true_and, and_true,
      State.seqsFlushed]
    refine ⟨by simp, rfl, ?_⟩
    · simp only [Four.mapIdx_mapIdx]
      apply Four.mapIdx_congr; intro l
      by_cases h : s.unitOf l = u
      · have h' : s.setup.board.unitMap.get l = u := h
        simp [State.unitOf, h', State.tripped, State.trip, State.legEntry]
        rfl
      · have h' : ¬ s.setup.board.unitMap.get l = u := h
        simp [State.unitOf, h']
  have hp : s₁.ports = s.ports := by subst hs₁; simp
  have htm : s₁.time = s.time := by subst hs₁; simp
  cases n with
  | none =>
    rw [key s₁ rfl]
    simp only [List.nil_append]
    rw [State.told_congr s s₁ _ hp htm]
  | some n =>
    dsimp only
    rw [key _ (by rw [State.notifyOpt_eq])]
    rw [State.told_told s _ (toPort (s.unit u).holder [n]) (s.grantTold u (s.tripped u))
      (by rw [State.notifyOpt_eq]; exact State.told_congr _ _ _ hp htm)
      (by simp [htm])]

/-- R4: a quiet time other than 0 does not end in the event that began it. -/
theorem State.endZeroQuiet_other (s : State) (u : UnitNo) (h : (s.unitEntry u).quiet ≠ 0) :
    s.endZeroQuiet u = s := by
  simp [State.endZeroQuiet, h]
@[simp] theorem State.endZeroQuiets_nil (s : State) : s.endZeroQuiets [] = s := rfl
@[simp] theorem State.endZeroQuiets_cons (s : State) (u : UnitNo) (us : List UnitNo) :
    s.endZeroQuiets (u :: us) = (s.endZeroQuiet u).endZeroQuiets us := rfl

/-- R20: what a drain does up to the start of the quiet timer. -/
theorem State.beginDrain_eq (s : State) (u : UnitNo) :
    s.beginDrain u =
      { s with
        units := s.units.set u { (s.unit u).toQuiet with quiet := (s.unitEntry u).quiet }
        stages := s.stages.mapIdx fun l st =>
          if s.unitOf l = u then forceStage (s.legEntry l) st else st
        ports := s.told (toPort (s.unit u).holder [.releaseDone u]) } := by
  unfold State.beginDrain State.loadQuiet
  dsimp only
  rw [State.notifyOpt_eq]
  simp [State.setUnit, State.onUnitStages, State.setStages, State.unit, State.unitEntry, State.told,
    State.port, State.unitOf, State.legEntry]
  rfl

/-- R20: what a drain does. -/
theorem State.drain_eq (s : State) (u : UnitNo) :
    s.drain u =
      { s with
        units := s.units.set u (s.unitAfterLease u)
        stages := s.legsAfterLease u (s.tripped u) fun _ st => st
        ports := s.told fun k =>
          toPort (s.unit u).holder [.releaseDone u] k ++ s.grantTold u (s.tripped u) k } := by
  show (((s.setUnit u (s.unit u).toQuiet).onUnitStages u fun e _ st =>
    forceStage e st).notifyOpt (s.unit u).holder (.releaseDone u)).startQuiet u = _
  generalize hs₁ : ((s.setUnit u (s.unit u).toQuiet).onUnitStages u fun e _ st =>
    forceStage e st) = s₁
  have hp : s₁.ports = s.ports := by subst hs₁; simp
  have htm : s₁.time = s.time := by subst hs₁; simp
  rw [State.notifyOpt_eq]
  generalize hP : s₁.told (toPort (s.unit u).holder [.releaseDone u]) = P
  have hu₂ : ({ s₁ with ports := P } : State).unit u = (s.unit u).toQuiet := by
    subst hs₁; simp [State.unit]
  rw [State.startQuiet_eq _ u (by rw [hu₂]; exact UnitRec.toQuiet_entersQuiet _)]
  have he : ({ s₁ with ports := P } : State).unitEntry u = s.unitEntry u := by
    subst hs₁; simp [State.unitEntry]
  have ht : ({ s₁ with ports := P } : State).tripped u = s.tripped u := by
    subst hs₁; simp [State.tripped, State.trip]
  have hq : ({ s₁ with ports := P } : State).unitAfterLease u = s.unitAfterLease u := by
    simp [State.unitAfterLease, hu₂, he, UnitRec.toQuiet]
  have hg : ({ s₁ with ports := P } : State).grantTold u (s.tripped u) =
      s.grantTold u (s.tripped u) := by
    simp [State.grantTold, hu₂, he, UnitRec.toQuiet]
  rw [ht, hq, hg]
  have hpp : ({ s₁ with ports := P } : State).ports =
      s.told (toPort (s.unit u).holder [.releaseDone u]) := by
    rw [← hP]; exact State.told_congr _ _ _ hp htm
  rw [State.told_told s { s₁ with ports := P } _ (s.grantTold u (s.tripped u)) hpp htm]
  subst hs₁
  simp only [State.legsAfterLease, State.onUnitStages, State.setStages, State.setUnit,
    State.mk.injEq, true_and, and_true]
  refine ⟨by simp, ?_⟩
  simp only [Four.mapIdx_mapIdx]
  apply Four.mapIdx_congr; intro l
  by_cases h : s.unitOf l = u
  · have h' : s.setup.board.unitMap.get l = u := h
    simp [State.unitOf, h', State.legEntry]
  · have h' : ¬ s.setup.board.unitMap.get l = u := h
    simp [State.unitOf, h']

theorem State.drainCheck_releasing (s : State) (u : UnitNo) (h : (s.unit u).lease = .releasing)
    (hd : s.unitDrained u = true) : s.drainCheck u = s.drain u := by
  simp [State.drainCheck, State.drainDue, h, hd]

theorem State.drainCheck_other (s : State) (u : UnitNo)
    (h : (s.unit u).lease ≠ .releasing ∨ s.unitDrained u = false) : s.drainCheck u = s := by
  unfold State.drainCheck State.drainDue; rw [if_neg]
  rw [decide_eq_true_eq]
  rintro ⟨h1, h2⟩
  rcases h with h | h
  · exact h h1
  · rw [h2] at h; cases h

/-- R45: when a unit's legs have drained. -/
theorem State.unitDrained_iff (s : State) (u : UnitNo) :
    s.unitDrained u = true ↔ ∀ l : Leg, s.unitOf l = u → (s.seq l).idleEmpty = true := by
  simp only [State.unitDrained, List.all_eq_true, Bool.or_eq_true, decide_eq_true_eq]
  constructor
  · intro h l hl
    rcases h l (Four.mem_four l) with h' | h'
    · exact absurd hl h'
    · exact h'
  · intro h l _
    by_cases hl : s.unitOf l = u
    · exact .inr (h l hl)
    · exact .inl hl

end Sys2Proof.Machine
end

