-- ==== Sys2Proof/Laws/PerInstr.lean ====
section
/-! SUPPORT. The family CommandFrame, one lemma per row: the frame of a command row carries a body of
the length that the opcode table gives its command (R168), and an event row has no frame. -/

namespace Sys2Proof.Laws.CommandFrame

/-- R168: the body of a command row has its command's length. -/
def Statement (i : Instr) : Prop :=
  ∀ (p : Port) (c : Command) (seq : Byte) (body : List Byte),
    commandParts i = some (p, c, seq, body) → body.length = bodyLength c

/-- A row of command `c` whose body is `body`. -/
theorem of_parts {i : Instr} {p : Port} {c : Command} {seq : Byte} {body : List Byte}
    (h : commandParts i = some (p, c, seq, body)) (hl : body.length = bodyLength c) :
    Statement i := by
  intro p' c' seq' body' h'
  rw [h] at h'
  cases h'
  exact hl

/-- A row with no frame. -/
theorem of_none {i : Instr} (h : commandParts i = none) : Statement i := by
  intro p c seq body h'
  rw [h] at h'
  cases h'

theorem ident (p : Port) (seq : Byte) :
    Statement (.ident p seq) := of_parts rfl rfl
theorem portReset (p : Port) (seq : Byte) :
    Statement (.portReset p seq) := of_parts rfl rfl
theorem readTime (p : Port) (seq : Byte) :
    Statement (.readTime p seq) := of_parts rfl rfl
theorem openSetup (p : Port) (seq : Byte) :
    Statement (.openSetup p seq) := of_parts rfl rfl
theorem closeSetup (p : Port) (seq : Byte) :
    Statement (.closeSetup p seq) := of_parts rfl rfl
theorem setUnitMap (p : Port) (seq u0 u1 u2 u3 : Byte) :
    Statement (.setUnitMap p seq u0 u1 u2 u3) := of_parts rfl rfl
theorem setLeg (p : Port) (seq leg kind : Byte) (dt minOn maxOn : Half)
    (idle lowWater escalation : Byte) :
    Statement (.setLeg p seq leg kind dt minOn maxOn idle lowWater escalation) := of_parts rfl rfl
theorem setUnit (p : Port) (seq unit allowed : Byte) (quiet maxLease : Half) :
    Statement (.setUnit p seq unit allowed quiet maxLease) := of_parts rfl rfl
theorem setSense (p : Port) (seq sense action target code polarity window blank qualify : Byte) :
    Statement (.setSense p seq sense action target code polarity window blank qualify) :=
  of_parts rfl rfl
theorem setSupervisor (p : Port) (seq port : Byte) :
    Statement (.setSupervisor p seq port) := of_parts rfl rfl
theorem setSupply (p : Port) (seq settle : Byte) :
    Statement (.setSupply p seq settle) := of_parts rfl rfl
theorem readConfig (p : Port) (seq kind index : Byte) :
    Statement (.readConfig p seq kind index) := of_parts rfl rfl
theorem commit (p : Port) (seq : Byte) :
    Statement (.commit p seq) := of_parts rfl rfl
theorem claim (p : Port) (seq unit : Byte) (period : Half) (mode : Byte) (limit : Half) :
    Statement (.claim p seq unit period mode limit) := of_parts rfl rfl
theorem withdraw (p : Port) (seq unit : Byte) :
    Statement (.withdraw p seq unit) := of_parts rfl rfl
theorem renew (p : Port) (seq unit : Byte) :
    Statement (.renew p seq unit) := of_parts rfl rfl
theorem release (p : Port) (seq unit option : Byte) :
    Statement (.release p seq unit option) := of_parts rfl rfl
theorem revoke (p : Port) (seq unit : Byte) :
    Statement (.revoke p seq unit) := of_parts rfl rfl
theorem unitStatus (p : Port) (seq unit : Byte) :
    Statement (.unitStatus p seq unit) := of_parts rfl rfl
theorem enqueue (p : Port) (seq leg : Byte) (raw : RawSegment) :
    Statement (.enqueue p seq leg raw) := of_parts rfl rfl
theorem flush (p : Port) (seq leg option : Byte) :
    Statement (.flush p seq leg option) := of_parts rfl rfl
theorem legStatus (p : Port) (seq leg : Byte) :
    Statement (.legStatus p seq leg) := of_parts rfl rfl
theorem senseStatus (p : Port) (seq : Byte) :
    Statement (.senseStatus p seq) := of_parts rfl rfl
theorem readTrip (p : Port) (seq unit : Byte) :
    Statement (.readTrip p seq unit) := of_parts rfl rfl
theorem clearTrip (p : Port) (seq unit : Byte) :
    Statement (.clearTrip p seq unit) := of_parts rfl rfl
theorem readFrame (p : Port) (clocked : Nat) :
    Statement (.readFrame p clocked) := of_none rfl
theorem errorEntry (p : Port) (bytes : List Byte) (bits : Nat) :
    Statement (.errorEntry p bytes bits) := of_none rfl
theorem powerOnReset (csLow : BitVec 4) :
    Statement (.powerOnReset csLow) := of_none rfl
theorem rstNReset (csLow : BitVec 4) :
    Statement (.rstNReset csLow) := of_none rfl
theorem faultNLowSpell :
    Statement (.faultNLowSpell) := of_none rfl
theorem syncRisingEdge (sample : Level) :
    Statement (.syncRisingEdge sample) := of_none rfl
theorem supplyLeavingGood (vg : Nat) :
    Statement (.supplyLeavingGood vg) := of_none rfl
theorem vgHighSample (vg : Nat) :
    Statement (.vgHighSample vg) := of_none rfl
theorem vgLowSampleSettling (vg : Nat) :
    Statement (.vgLowSampleSettling vg) := of_none rfl
theorem settleTimerExpiry :
    Statement (.settleTimerExpiry) := of_none rfl
theorem timestampStep :
    Statement (.timestampStep) := of_none rfl
theorem millisecondTick :
    Statement (.millisecondTick) := of_none rfl
theorem leaseExpiry (u : UnitNo) :
    Statement (.leaseExpiry u) := of_none rfl
theorem quietEnd (u : UnitNo) :
    Statement (.quietEnd u) := of_none rfl
theorem claimTimeout (u : UnitNo) (p : Port) :
    Statement (.claimTimeout u p) := of_none rfl
theorem setupLockInactivityExpiry :
    Statement (.setupLockInactivityExpiry) := of_none rfl
theorem atTimeOpening (l : Leg) :
    Statement (.atTimeOpening l) := of_none rfl
theorem periodEnd (l : Leg) :
    Statement (.periodEnd l) := of_none rfl
theorem decisionPoint (l : Leg) :
    Statement (.decisionPoint l) := of_none rfl
theorem layoutGateChange (l : Leg) :
    Statement (.layoutGateChange l) := of_none rfl
theorem deadTimeGuardExpiry (l : Leg) :
    Statement (.deadTimeGuardExpiry l) := of_none rfl
theorem leadingDeadTimeEnd (l : Leg) :
    Statement (.leadingDeadTimeEnd l) := of_none rfl
theorem senseSample (n : SenseNo) (sns vref : Nat) :
    Statement (.senseSample n sns vref) := of_none rfl
theorem chipSelectFall (p : Port) :
    Statement (.chipSelectFall p) := of_none rfl
theorem firstByteWhole (p : Port) (b : Byte) :
    Statement (.firstByteWhole p b) := of_none rfl
theorem faultNRise :
    Statement (.faultNRise) := of_none rfl

end Sys2Proof.Laws.CommandFrame
end

