-- ==== Sys2Proof/Laws/Waves.lean ====
section
/-! SUPPORT. What the shared operations of the Gate Output Stage, the Segment Sequencer, the sense
inputs and the Protection Unit can do, each said once. -/

namespace Sys2Proof.Machine

/-! ### One gate -/

@[simp] theorem guards_none (g : Gate) : guards .none g = false := by cases g <;> rfl
@[simp] theorem guards_both (g : Gate) : guards .both g = true := by cases g <;> rfl
@[simp] theorem guardAfter_zero (g : Guarded) : guardAfter 0 g = .none := rfl
theorem guardAfter_pos {dt : Nat} (h : dt ≠ 0) (g : Guarded) : guardAfter dt g = g := by
  simp [guardAfter, h]

/-- A turn-off of GH: nothing on a gate that is off. -/
theorem turnOffGH_off {dt : Nat} {st : Stage} (h : st.gh = false) : turnOffGH dt st = st := by
  simp [turnOffGH, h]
/-- A turn-off of GH that is on. -/
theorem turnOffGH_on {dt : Nat} {st : Stage} (h : st.gh = true) :
    turnOffGH dt st =
      { st with gh := false, ghBlank := none, deadTimer := 0, guarded := guardAfter dt .gl } := by
  simp [turnOffGH, h]
/-- A turn-off of GL: nothing on a gate that is off. -/
theorem turnOffGL_off {dt : Nat} {st : Stage} (h : st.gl = false) : turnOffGL dt st = st := by
  simp [turnOffGL, h]
/-- A turn-off of GL that is on. -/
theorem turnOffGL_on {dt : Nat} {st : Stage} (h : st.gl = true) :
    turnOffGL dt st =
      { st with gl := false, glBlank := none, deadTimer := 0, guarded := guardAfter dt .gh } := by
  simp [turnOffGL, h]
/-- A turn-on of GH happens with both gates off and GH unguarded, and else not at all. -/
theorem turnOnGH_cases (st : Stage) :
    (st.gh = false ∧ st.gl = false ∧ guards st.guarded .gh = false ∧
      turnOnGH st = { st with gh := true, ghBlank := some 0 }) ∨ turnOnGH st = st := by
  unfold turnOnGH
  split
  · exact .inr rfl
  · rename_i h
    simp only [Bool.or_eq_true, not_or, Bool.not_eq_true] at h
    exact .inl ⟨h.1.1, h.1.2, h.2, rfl⟩
/-- A turn-on of GL happens with both gates off and GL unguarded, and else not at all. -/
theorem turnOnGL_cases (st : Stage) :
    (st.gh = false ∧ st.gl = false ∧ guards st.guarded .gl = false ∧
      turnOnGL st = { st with gl := true, glBlank := some 0 }) ∨ turnOnGL st = st := by
  unfold turnOnGL
  split
  · exact .inr rfl
  · rename_i h
    simp only [Bool.or_eq_true, not_or, Bool.not_eq_true] at h
    exact .inl ⟨h.1.1, h.1.2, h.2, rfl⟩

/-! ### Fields that bringing the gates to a level leaves -/

@[simp] theorem turnOffGH_state (dt : Nat) (st : Stage) : (turnOffGH dt st).state = st.state := by
  unfold turnOffGH; split <;> rfl
@[simp] theorem turnOffGL_state (dt : Nat) (st : Stage) : (turnOffGL dt st).state = st.state := by
  unfold turnOffGL; split <;> rfl
@[simp] theorem turnOnGH_state (st : Stage) : (turnOnGH st).state = st.state := by
  unfold turnOnGH; split <;> rfl
@[simp] theorem turnOnGL_state (st : Stage) : (turnOnGL st).state = st.state := by
  unfold turnOnGL; split <;> rfl
@[simp] theorem turnOffGH_seen (dt : Nat) (st : Stage) : (turnOffGH dt st).seen = st.seen := by
  unfold turnOffGH; split <;> rfl
@[simp] theorem turnOffGL_seen (dt : Nat) (st : Stage) : (turnOffGL dt st).seen = st.seen := by
  unfold turnOffGL; split <;> rfl
@[simp] theorem turnOnGH_seen (st : Stage) : (turnOnGH st).seen = st.seen := by
  unfold turnOnGH; split <;> rfl
@[simp] theorem turnOnGL_seen (st : Stage) : (turnOnGL st).seen = st.seen := by
  unfold turnOnGL; split <;> rfl
@[simp] theorem turnOffs_state (dt : Nat) (w : Bool × Bool) (st : Stage) :
    (turnOffs dt w st).state = st.state := by
  unfold turnOffs; dsimp only; split <;> split <;> simp
@[simp] theorem turnOns_state (w : Bool × Bool) (st : Stage) : (turnOns w st).state = st.state := by
  unfold turnOns; dsimp only; split <;> split <;> simp
@[simp] theorem settleStage_state (e : LegEntry) (held : Bool) (st : Stage) :
    (settleStage e held st).state = st.state := by
  simp [settleStage]
@[simp] theorem releaseStage_state (e : LegEntry) (held : Bool) (st : Stage) :
    (releaseStage e held st).state = st.state := by
  simp [releaseStage]
@[simp] theorem bothOff_state (dt : Nat) (x : StageState) (st : Stage) :
    (bothOff dt x st).state = x := by
  unfold bothOff; split <;> rfl
@[simp] theorem bothOff_gh (dt : Nat) (x : StageState) (st : Stage) :
    (bothOff dt x st).gh = false := by
  unfold bothOff
  split
  · rfl
  · rename_i h
    simp only [Bool.or_eq_true, not_or, Bool.not_eq_true] at h
    exact h.1
@[simp] theorem bothOff_gl (dt : Nat) (x : StageState) (st : Stage) :
    (bothOff dt x st).gl = false := by
  unfold bothOff
  split
  · rfl
  · rename_i h
    simp only [Bool.or_eq_true, not_or, Bool.not_eq_true] at h
    exact h.2
@[simp] theorem beginPeriod_state (e : LegEntry) (held : Bool) (y : Layout) (st : Stage) :
    (beginPeriod e held y st).state = .playing y 0 := by
  simp [beginPeriod]
@[simp] theorem endStage_state (e : LegEntry) (held : Bool) (st : Stage) :
    (endStage e held st).state = .resting := by
  simp [endStage]
/-- R58: forcing a leg that is forced already changes nothing. -/
@[simp] theorem forceStage_forceStage (e : LegEntry) (st : Stage) :
    forceStage e (forceStage e st) = forceStage e st := by
  unfold forceStage bothOff
  split <;> simp_all

/-! ### Stages and sequencers of the part -/

/-- An operation at the stage of one leg. -/
theorem State.onStage_eq (s : State) (l : Leg) (f : LegEntry → Bool → Stage → Stage) :
    s.onStage l f =
      { s with stages := s.stages.set l (f (s.legEntry l) (s.unitHeld l) (s.stage l)) } := rfl
/-- R5, R98: a unit's legs forced off and flushed. -/
theorem State.stopUnit_eq (s : State) (u : UnitNo) :
    s.stopUnit u =
      { s with
        stages := s.stages.mapIdx fun l st =>
          if s.unitOf l = u then forceStage (s.legEntry l) st else st
        seqs := s.seqsFlushed u } := rfl
/-- R34: nothing to take. -/
theorem State.take_nil (s : State) (l : Leg) (h : (s.seq l).queue = []) : s.take l = s := by
  simp [State.take, h]
/-- R34: the head is taken. -/
theorem State.take_cons (s : State) (l : Leg) (g : Segment) (rest : List Segment)
    (h : (s.seq l).queue = g :: rest) :
    s.take l =
      { s with
        seqs := s.seqs.set l
          { s.seq l with
            queue := rest, active := some (activeOf (s.legEntry l) s.time.stamp g) }
        stages := s.stages.set l
          (takeStage (s.legEntry l) (s.unitHeld l) (activeOf (s.legEntry l) s.time.stamp g)
            (s.stage l)) } := by
  simp only [State.take, h]
  rfl
/-- R35: a gate opens on a leg with no active segment: nothing. -/
theorem State.openGate_idle (s : State) (l : Leg) (h : (s.seq l).active = none) :
    s.openGate l = s := by
  simp [State.openGate, h]
/-- R35: a start gate opens. -/
theorem State.openGate_active (s : State) (l : Leg) (a : Active) (h : (s.seq l).active = some a) :
    s.openGate l =
      { s with
        seqs := s.seqs.set l { s.seq l with active := some { a with gate := none } }
        stages := s.stages.set l
          (openStage (s.legEntry l) (s.unitHeld l) { a with gate := none } (s.stage l)) } := by
  simp only [State.openGate, h]
  rfl
/-- R40: QUEUE_LOW is not due. -/
theorem State.queueLowCheck_quiet (s : State) (l : Leg) (n : Nat)
    (h : ¬ (n = (s.legEntry l).lowWater + 1 ∧ (s.seq l).lowArmed = true)) :
    s.queueLowCheck l n = s := by
  simp only [State.queueLowCheck, if_neg h]

/-! ### Sense inputs and trips -/

/-- R97, R101: a request for a TRIPPED unit joins its later causes. -/
theorem State.tripRequest_tripped (s : State) (u : UnitNo) (c : Cause) (leg : Option Leg)
    (h : s.tripped u = true) :
    s.tripRequest u c leg = { s with trips := s.trips.set u ((s.trip u).addLater c) } := by
  simp only [State.tripRequest, h, if_true]
  rfl
/-- R98: what steps 1 to 4 of a trip do. -/
theorem State.strike_eq (s : State) (u : UnitNo) (c : Cause) (leg : Option Leg) :
    s.strike u c leg =
      { s with
        trips := s.trips.set u
          { info := some
              { cause := c, leg := leg, stamp := s.time.stamp
                tag := leg.bind fun l => (s.seq l).activeTag
                owner := (s.unit u).holder, discarded := s.unitDiscards u }
            laterSenses := 0, laterExternal := false }
        stages := s.stages.mapIdx fun l st =>
          if s.unitOf l = u then forceStage (s.legEntry l) st else st
        seqs := s.seqsFlushed u
        ports := s.told (toBoth (s.unit u).holder s.board.supervisor
          (.tripped u c leg (leg.bind fun l => (s.seq l).activeTag) (s.unitDiscards u))) } := by
  unfold State.strike
  dsimp only
  rw [State.notifyBoth_eq, State.stopUnit_eq]
  rfl
/-- R97: a request for a NORMAL unit is taken. -/
theorem State.tripRequest_normal (s : State) (u : UnitNo) (c : Cause) (leg : Option Leg)
    (h : s.tripped u = false) : s.tripRequest u c leg = s.takeTrip u c leg := by
  simp [State.tripRequest, h]
/-- R69: a cut request on a leg that is not playing with GH on has no effect. -/
theorem State.cycleCut_off (s : State) (n : SenseNo) (l : Leg)
    (h : (s.stage l).cuttable = false) : s.cycleCut n l = s := by
  simp [State.cycleCut, h]
/-- R93: the sample of an unarmed input records the raw level alone. -/
theorem State.sample_unarmed (s : State) (n : SenseNo) (v : Level)
    (h : (s.sense n).armed = false) :
    s.sample n v = { s with senses := s.senses.set n { s.sense n with raw := v } } := by
  simp only [State.sample, h]
  rfl

end Sys2Proof.Machine
end

