-- ==== Sys2Proof/Tests/Slice0.lean ====
section
/-! SUPPORT. Tests: ill-formed rows refused, frames written out from the spec's tables, one-step
checks whose expected results stand in the spec's worked examples, and for every statement with
hypotheses a state and operands that meet them. -/

set_option maxRecDepth 8000

namespace Sys2Proof.Tests

open Sys2Proof.Machine

/-! ### Small states -/

/-- The state after row `i`. -/
def after (i : Instr) (s : State) : State :=
  match exec i s with
  | .next t => t
  | .fault _ => s
  | .refused _ => s

/-- In RUN, with the supply GOOD, everything else as after reset. -/
def running : State :=
  { State.reset with
    setup := { Setup.reset with phase := .run }, supply := { state := .good, timer := 0 } }

/-- In SETUP, with port 0 holding the setup lock. -/
def session : State := State.reset.setLock (some 0) 2000

/-- Unit 1 held by port `p` with a lease period of 1000 ms. -/
def lease (p : Port) : UnitRec :=
  { UnitRec.reset with
    lease := .held, owner := some p, period := some 1000, remaining := 1000, leaseLowArmed := true }

/-- `running` with unit 1 held by port 0. -/
def held : State := running.setUnit 1 (lease 0)

/-- `running` with unit 1 RELEASING by port 0. -/
def finishing : State :=
  running.setUnit 1
    { UnitRec.reset with
      lease := .releasing, releasing := some 0, period := some 1000, remaining := 700 }

/-- `running` with unit 1 QUIET. -/
def quieted : State := running.setUnit 1 { UnitRec.reset with lease := .quiet, quiet := 1000 }

/-- A wait entry of port `p` at timestamp 5. -/
def waiter (p : Port) (left : Option Nat) : WaitEntry :=
  { port := p, period := 500, limit := left.map fun _ => 40, remaining := left, claimedAt := 5 }

/-- `s` with the queue of port `p` holding `n` replies. -/
def fullOf (s : State) (p : Port) (n : Nat) : State :=
  s.setPort p { s.port p with queue := List.replicate n (.reply .ident 0 .ok []) }

/-- A segment of period 400 and on-time 150. -/
def plain (m : Mode) (count : Nat) : Segment :=
  { mode := m, period := 400, onTime := 150, count := count, tag := 10, notify := true
    step := none, gate := none }

/-- The active segment made of it, with no period completed. -/
def playingSeg (m : Mode) (count : Nat) : Active :=
  { seg := plain m count, completed := 0, onTime := 150, late := false, gate := none }

/-- `s` with leg 1 PLAYING segment `a` at `pos`. -/
def playing (s : State) (a : Active) (y : Layout) (pos : Nat) : State :=
  (s.setSeq 1 { LegSeq.reset with active := some a }).setStage 1
    { Stage.reset with state := .playing y pos, guarded := .none }

/-- The record of an ENQUEUE of COMPLEMENTARY, period 400, on-time 150. -/
def plainRaw (flags : Byte) (gate : Stamp) : RawSegment :=
  { mode := 0, period := 400, onTime := 150, count := 0, tag := 10, flags := flags, stepSign := 0
    stepMagnitude := 0, gateValue := gate }

/-- A state in which the sense input 2 of the worked example "Cutting a Pulse" is armed: CYCLE at L1,
HIGH_ON, blank 30, qualify 4; L1 plays at position 64 with GH on, the wu before seen likewise. -/
def cutting (esc : Nat) : State :=
  let s := playing held (playingSeg .complementary 0) (layoutOf (playingSeg .complementary 0)) 64
  let e : SenseEntry :=
    { action := .cycle, target := 1, threshold := 40, polarity := .above, window := .highOn
      blank := 30, qualify := 4 }
  let s := s.setBoard
    { s.board with
      senses := s.board.senses.set 2 e
      legs := s.board.legs.set 1 { LegEntry.reset with escalation := esc } }
  let s := s.setSenseRec 2 { SenseRec.reset with armed := true, count := 3 }
  s.setStage 1
    { s.stage 1 with
      gh := true, ghBlank := some 64
      seen := { gh := true, gl := false, ghBlank := some 63, glBlank := none } }

/-- `cutting` with another action and window for input 2. -/
def sensing (a : Action) (w : Window) : State :=
  let s := cutting 0
  s.setBoard
    { s.board with
      senses := s.board.senses.set 2
        { s.senseEntry 2 with action := a, window := w } }

/-- A trip by EXTERNAL. -/
def anyTrip : TripInfo :=
  { cause := .external, leg := none, stamp := 0, tag := none, owner := none, discarded := 0 }

/-- `held` with unit 1 TRIPPED. -/
def trippedHeld : State :=
  held.setTrip 1 { info := some anyTrip, laterSenses := 0, laterExternal := false }

/-! ### Well-formed rows -/

/-- Eight further bits are a byte (R149). -/
theorem test_errorEntry_of_eight_bits_is_ill_formed :
    Instr.wellFormed (.errorEntry 0 [0x55] 8) = false := by decide
/-- A frame that begins with 0x02 is a READ frame (R151). -/
theorem test_errorEntry_of_a_read_frame_is_ill_formed :
    Instr.wellFormed (.errorEntry 0 [0x02, 0x00] 0) = false := by decide
/-- A frame that passes every check is no ERROR_ENTRY (R152). -/
theorem test_errorEntry_of_a_sound_frame_is_ill_formed :
    Instr.wellFormed (.errorEntry 1 [0x22, 0x05, 0x01, 0x01, 0x30] 0) = false := by decide
/-- "Frames That Fail", transaction E: a single byte 0x55. -/
theorem test_errorEntry_of_one_byte_is_well_formed :
    Instr.wellFormed (.errorEntry 3 [0x55] 0) = true := by decide

/-! ### Frames -/

/-- "Renewing a Lease, Byte by Byte": the check byte. -/
theorem test_check_byte_of_the_renew_example :
    crcByte 0x00 0x22 = 0xEE ∧ crcByte 0xEE 0x05 = 0x9F ∧ crcByte 0x9F 0x01 = 0xD3 ∧
      crcByte 0xD3 0x01 = 0x30 := by decide
/-- The frame of that example is the RENEW of unit 1. -/
theorem test_frame_of_the_renew_example :
    (decodeFrame 1 [0x22, 0x05, 0x01, 0x01, 0x30] 0).toOption = some (.renew 1 0x05 0x01) := by
  decide
/-- The reply of that example. -/
theorem test_reply_of_the_renew_example :
    entryBytes (.reply .renew 0x05 .ok ([0x01] ++ num2 2000)) =
      [0x01, 0x08, 0x22, 0x05, 0x00, 0x01, 0x07, 0xD0] := by decide
/-- The ERROR entry of that example's frame with last byte 0x31. -/
theorem test_error_of_the_renew_example :
    frameCheck [0x22, 0x05, 0x01, 0x01, 0x31] 5 0 = some .check ∧
      entryBytes (.error .check 5 0x22 0x05) = [0x03, 0x06, 0x11, 0x05, 0x22, 0x05] := by decide
/-- "Frames That Fail", transactions A, C and D. -/
theorem test_frames_that_fail :
    frameCheck [0x23, 0x10, 0x02, 0x01, 0x00] 5 3 = some .frame ∧
      frameCheck [0x7E, 0x12, 0x00, crc8 [0x7E, 0x12, 0x00]] 4 0 = some .unknown ∧
      frameCheck [0x22, 0x13, 0x00, crc8 [0x22, 0x13, 0x00]] 4 0 = some .length := by decide
/-- Transaction A places its ERROR entry. -/
theorem test_error_entry_is_placed :
    ((after (.errorEntry 3 [0x23, 0x10, 0x02, 0x01, 0x00] 3) State.reset).port 3).queue =
      [.error .frame 5 0x23 0x10] := by decide
/-- A frame of each family written out from R168 and R169: SET_UNIT, CLAIM, ENQUEUE. -/
theorem test_frames_of_three_families :
    (decodeBody 0 7 .setUnit [0x00, 0x0B, 0x01, 0xF4, 0x13, 0x88]) =
        some (.setUnit 0 7 0x00 0x0B 500 5000) ∧
      (decodeBody 0 7 .claim [0x01, 0x03, 0xE8, 0x01, 0x0B, 0xB8]) =
        some (.claim 0 7 0x01 1000 0x01 3000) ∧
      (decodeBody 0 7 .enqueue
          [0x01, 0x00, 0x01, 0x90, 0x00, 0x96, 0x00, 0x00, 0x01, 0x01, 0x00, 0x00, 0, 0, 0, 0]) =
        some (.enqueue 0 7 0x01
          { mode := 0, period := 400, onTime := 150, count := 0, tag := 1, flags := 1
            stepSign := 0, stepMagnitude := 0, gateValue := 0 }) := by decide
/-- No row has table bits (log 4). -/
theorem test_no_word_spells_a_row : decodeTableWord 32 0x22050101 = none := by decide

/-! ### One step each -/

/-- "Bringing the Part Up": IDENT after the supply is GOOD. -/
theorem test_ident_of_the_bring_up :
    ((after (.ident 3 9) { State.reset with supply := { state := .good, timer := 0 } }).port
        3).queue =
      [.reply .ident 9 .ok [0xA7, 0x48, 0x01, 0x00, 0x00, 0x02, 0x01]] := by decide
/-- The same sequence: OPEN_SETUP. -/
theorem test_openSetup_of_the_bring_up :
    (after (.openSetup 3 1) State.reset).setup.holder = some 3 ∧
      (after (.openSetup 3 1) State.reset).setup.inactivity = 2000 := by decide
/-- The same sequence: COMMIT of a sound table, with FAULT_N high. -/
theorem test_commit_begins_run :
    (after (.commit 0 1) session).setup.phase = .run ∧
      (after (.commit 0 1) session).setup.holder = none ∧
      ((after (.commit 0 1) session).port 0).queue = [.reply .commit 1 .ok []] := by decide
/-- "Two Controllers Sharing the Heater Unit", event 1. -/
theorem test_claim_of_a_free_unit :
    (after (.claim 0 1 0x01 1000 0x01 0) running).unit 1 = lease 0 ∧
      ((after (.claim 0 1 0x01 1000 0x01 0) running).port 0).queue =
        [.reply .claim 1 .granted [0x01, 0x03, 0xE8, 0x00]] := by decide
/-- The same example, event 3: QUEUED at position 1. -/
theorem test_claim_of_a_held_unit_waits :
    ((after (.claim 2 1 0x01 2000 0x01 3000) held).port 2).queue =
        [.reply .claim 1 .queued [0x01, 0x01]] ∧
      ((after (.claim 2 1 0x01 2000 0x01 3000) held).unit 1).wait =
        [{ port := 2, period := 2000, limit := some 3000, remaining := some 3000
           claimedAt := 0 }] := by decide
/-- "Revoke During a Finishing Release", event 2: LEASE_LOST(REVOKED), and QUIET for 1000 µs. -/
theorem test_revoke_of_a_finishing_release :
    let s := finishing.setBoard { finishing.board with supervisor := some 3 }
    ((after (.revoke 3 1 0x01) s).unit 1).lease = .quiet ∧
      ((after (.revoke 3 1 0x01) s).unit 1).quiet = 1000 ∧
      ((after (.revoke 3 1 0x01) s).port 0).queue = [.notice (.leaseLost 1 .revoked) 0] := by
  decide
/-- "Waits That End Together With a Grant", expiry first, with a quiet time of 0. -/
theorem test_expiry_grants_the_head_when_the_quiet_time_is_zero :
    let s := (held.setUnit 1
      { lease 2 with remaining := 0, wait := [waiter 1 (some 1), waiter 3 none] }).setBoard
      { held.board with units := held.board.units.set 1 { UnitEntry.reset with quiet := 0 } }
    ((after (.leaseExpiry 1) s).unit 1).owner = some 1 ∧
      ((after (.leaseExpiry 1) s).unit 1).wait = [waiter 3 none] ∧
      ((after (.leaseExpiry 1) s).port 2).queue = [.notice (.leaseLost 1 .expired) 0] := by
  decide
/-- R7: 250 ms for a lease period of 1000 ms. -/
theorem test_lease_low_at_a_quarter :
    ((after .millisecondTick (held.setUnit 1 { lease 0 with remaining := 251 })).port 0).queue =
      [.notice (.leaseLow 1 250) 0] := by decide
/-- "A Refilled Queue", step 1: the segment is taken at once, pending 0. -/
theorem test_enqueue_on_an_idle_leg :
    ((after (.enqueue 0 1 0x01 (plainRaw 1 0)) held).port 0).queue =
        [.reply .enqueue 1 .ok [0x01, 0x00]] ∧
      ((after (.enqueue 0 1 0x01 (plainRaw 1 0)) held).seq 1).state = .running := by decide
/-- "A Gate Across the Wrap": closed at 4 294 960 000 and at 2 999, open at 3 000 and 3 500. -/
theorem test_gate_across_the_wrap :
    gateOpen 4294960000 3000 = false ∧ gateOpen 2999 3000 = false ∧ gateOpen 3000 3000 = true ∧
      gateOpen 3500 3000 = true := by decide
/-- "A Falling Step": 200 − 60 k, clamped at MIN_ON 10. -/
theorem test_a_falling_step :
    let g := { plain .complementary 8 with onTime := 200, step := some (-60) }
    [0, 1, 3, 4, 7].map (onTimeAt LegEntry.reset g) = [200, 140, 20, 10, 10] := by decide
/-- "From Idle LOW and Back": GL turns off at the take, and the leg is LEADING. -/
theorem test_take_from_idle_low :
    let st := { Stage.reset with state := .resting, gl := true, glBlank := some 9, guarded := .none }
    (takeStage { LegEntry.reset with idle := .low } true (playingSeg .complementary 2) st).gl =
        false ∧
      (takeStage { LegEntry.reset with idle := .low } true (playingSeg .complementary 2) st).state =
        .leading (layoutOf (playingSeg .complementary 2)) := by decide
/-- The same example: GL is on over [170, 380) of period 0 and off at its edges. -/
theorem test_complementary_layout :
    [149, 150, 169, 170, 379, 380].map
        (layoutGates 20 (layoutOf (playingSeg .complementary 2))) =
      [(true, false), (false, false), (false, false), (false, true), (false, true),
        (false, false)] := by decide
/-- R67: GL, on at the end of a LOW_ONLY segment, turns off there and GH is guarded; the idle level
LOW turns GL on again, with a fresh blanking count. In RELEASING it stays off. -/
theorem test_segment_end_with_gl_on :
    let st := { Stage.reset with
      state := .playing (layoutOf (playingSeg .lowOnly 1)) 400, gl := true, glBlank := some 200
      deadTimer := 20, guarded := .none }
    let e := { LegEntry.reset with idle := .low }
    (endStage e true st).gl = true ∧ (endStage e true st).glBlank = some 0 ∧
      (endStage e true st).guarded = .gh ∧ (endStage e true st).deadTimer = 0 ∧
      (endStage e false st).gl = false := by decide
/-- R76, R77: a voltage at the reference reads inactive, and ends the count (R82). -/
theorem test_a_sample_at_the_reference :
    let t := after (.senseSample 2 41 64) (cutting 0)
    (t.stage 1).gh = true ∧ (t.sense 2).count = 0 := by decide
/-- "Cutting a Pulse": the fourth counted active sample cuts at position 64. -/
theorem test_cutting_a_pulse :
    let t := after (.senseSample 2 42 64) (cutting 0)
    (t.stage 1).gh = false ∧ (t.sense 2).qualified = true ∧ (t.seq 1).escalation = 1 := by decide
/-- "An Escalation on the Drive", event 1: the cut that reaches the limit trips the unit. -/
theorem test_escalation_trips_the_unit :
    let t := after (.senseSample 2 42 64) (cutting 1)
    ((t.trip 1).info.map TripInfo.cause) = some (.escalated 2) ∧
      (t.stage 1).state = .forced ∧ (t.seq 1).escalation = 0 := by decide
/-- "A Supervisor Port Under Pressure", event 1: two of four TRIPPED notices find room. -/
theorem test_fault_n_trips_every_unit :
    let s := running.setBoard { running.board with supervisor := some 0 }
    let s := s.setPort 0
      { PortRec.reset with queue := List.replicate 5 (.notice .supplyGood 0) }
    ((after .faultNLowSpell s).port 0).queue.length = 7 ∧
      ((after .faultNLowSpell s).port 0).missed = true := by decide
/-- The same example, event 3: the command that meets 8 entries is dropped. -/
theorem test_a_command_meeting_a_full_queue :
    ((after (.readTrip 0 0x32 0x03) (fullOf running 0 8)).port 0).queue.length = 8 ∧
      ((after (.readTrip 0 0x32 0x03) (fullOf running 0 8)).port 0).dropped = true := by decide
/-- R157: a READ frame of the longest length collects the head. -/
theorem test_a_full_length_read_frame :
    ((after (.readFrame 0 25) (fullOf running 0 2)).port 0).queue.length = 1 ∧
      ((after (.readFrame 0 1) (fullOf running 0 2)).port 0).queue.length = 2 := by decide
/-- "A Supply Dip", event 1: SUPPLY_LOW to each port, and every leg off. -/
theorem test_supply_leaves_good :
    let s := playing held (playingSeg .complementary 0) (layoutOf (playingSeg .complementary 0)) 9
    ((after (.supplyLeavingGood 1000000) s).port 2).queue = [.notice (.supplyLow ⟨0, 1, 0, 0⟩) 0] ∧
      ((after (.supplyLeavingGood 1000000) s).stage 1).state = .forced := by decide
/-- R27: the GRANTED notices of one event come after every other entry of it. -/
theorem test_grants_come_last :
    let r : UnitRec :=
      { UnitRec.reset with
        lease := .releasing, releasing := some 0, period := some 1000, remaining := 700
        wait := [waiter 0 none] }
    let b := running.board
    let now := { UnitEntry.reset with quiet := 0 }
    let s := (running.setBoard { b with units := (b.units.set 1 now).set 2 now }).setUnit 1 r
    ((after (.supplyLeavingGood 1000000) (s.setUnit 2 r)).port 0).queue.map
        (fun e => match e with | .notice (.supplyLow _) _ => 0 | .notice (.releaseDone u) _ => u.val
                               | .notice (.granted u ..) _ => 10 + u.val | _ => 99) =
      [0, 1, 2, 11, 12] := by decide
/-- R121: the timestamp steps 20 wu after the reset, by the part's own clock. -/
theorem test_the_clock_steps_the_timestamp :
    ({ State.reset with time := { Timebase.reset with wu := 20 } }).dueRows = [.timestampStep] ∧
      ({ State.reset with time := { Timebase.reset with wu := 19 } }).dueRows = [] := by decide
/-- "Two Legs on the Same Edges": the counter goes from 65 535 to 0. -/
theorem test_sync_edge_counter_wraps :
    let s := running.setTime { running.time with syncCount := 65535, syncLast := some .low }
    (after (.syncRisingEdge .high) s).time.syncCount = 0 := by decide

/-! ### Witnesses: the hypotheses of the statements can be met -/

/-- `running` with port 0 in FIRST_BYTE after its fall. -/
def fallen : State := after (.chipSelectFall 0) running
/-- A READ frame in progress at port 0, with one reply in its queue. -/
def reading : State := after (.firstByteWhole 0 0x02) (after (.chipSelectFall 0) (fullOf running 0 1))
/-- A READ frame in progress at port 0, with an empty queue. -/
def readingEmpty : State := after (.firstByteWhole 0 0x02) fallen

theorem witness_StepTakesTheFrontRow :
    ({ running with pending := [.readTime 0 1] }).pending = .readTime 0 1 :: [] := by decide

theorem witness_StepOnAnEmptyQueueRunsTheClock :
    State.reset.pending = [] ∧ State.reset.dueRows = [] ∧
      ({ State.reset with time := { Timebase.reset with wu := 20 } }).dueRows =
        .timestampStep :: [] ∧
      (let st : Stage :=
          { Stage.reset with
            state := .playing (layoutOf (playingSeg .highOnly 0)) 0, guarded := .gl
            ghBlank := some 255, glBlank := none }
       st.state = .playing (layoutOf (playingSeg .highOnly 0)) 0 ∧ st.guarded ≠ .none ∧
        st.ghBlank = some 255 ∧ st.glBlank = none) ∧
      ({ Stage.reset with guarded := .none }).guarded = .none ∧
      ∀ y pos, Stage.reset.state ≠ .playing y pos := by
  refine ⟨by decide, by decide, by decide, by decide, by decide, fun y pos h => ?_⟩
  cases h

theorem witness_DecodeReadsBackEveryCommand :
    commandParts (.renew 1 0x05 0x01) = some (1, .renew, 0x05, [0x01]) := by decide

theorem witness_ASoundFrameIsTheEncodingOfItsRow :
    decodeFrame 1 [0x22, 0x05, 0x01, 0x01, 0x30] 0 = .ok (.renew 1 0x05 0x01) := by rfl

/-- A frame of 3 bytes, one of 4 with a further bit, a length byte above 27, one that does not match,
a wrong check byte, an unknown code, a wrong length, and a sound frame. -/
theorem witness_FrameChecksAreMadeInOrder :
    ¬ (4 ≤ ([0x01, 0x00, 0x00] : List Byte).length ∧ (0 : Nat) = 0) ∧
      ¬ (4 ≤ ([0x01, 0x00, 0x00, 0x00] : List Byte).length ∧ (1 : Nat) = 0) ∧
      ¬ ((28 : Nat) ≤ 27) ∧ ([0x22, 0x05, 0x02, 0x01, 0x30] : List Byte).length ≠ 2 + 4 ∧
      ([0x22, 0x05, 0x01, 0x01, 0x31] : List Byte).getLastD 0x00 ≠
        crc8 [0x22, 0x05, 0x01, 0x01] ∧
      commandOfCode 0x7E = none ∧ commandOfCode 0x22 = some .renew ∧ bodyLength .renew ≠ 0 ∧
      bodyLength .renew = 1 ∧
      ([0x22, 0x05, 0x01, 0x01, 0x30] : List Byte).getLastD 0x00 =
        crc8 [0x22, 0x05, 0x01, 0x01] := by decide

/-- Room for a notice with 7 entries of which 6 are notices; none with 8 entries, or 7 notices. -/
theorem witness_ANoticeIsAdmittedOrLost :
    let n : Entry := .notice .supplyGood 0
    let r : Entry := .reply .ident 0 .ok []
    ((r :: List.replicate 6 n).length < 8 ∧ noticeCount (r :: List.replicate 6 n) < 7) ∧
      ¬ (List.replicate 8 r).length < 8 ∧ ¬ noticeCount (List.replicate 7 n) < 7 := by decide

theorem witness_ATransactionBeginsWithItsStatusByte :
    (running.port 0).txn = .idle ∧ (fallen.port 0).txn = .firstByte ∧ (0x02 : Byte) = 0x02 ∧
      (0x03 : Byte) ≠ 0x02 := by decide

/-- The reply of 5 bytes is chosen and clocked whole by 5, not by 4; and EMPTY is chosen. -/
theorem witness_AReadFrameCollectsTheHead :
    (reading.port 0).txn = .read ∧
      (reading.port 0).chosen = .entry (.reply .ident 0 .ok []) ∧
      (entryBytes (.reply .ident 0 .ok [])).length = 5 ∧
      (readingEmpty.port 0).txn = .read ∧ (readingEmpty.port 0).chosen = .empty := by decide

theorem witness_ARiseRowOnAnIdlePortIsTheWholeTransaction :
    (running.port 0).txn = .idle ∧ (running.port 0).awaitRise = false ∧
      commandParts (.readTime 0 1) = some (0, .readTime, 1, []) ∧
      commandCode .readTime = 0x04 ∧ Instr.wellFormed (.errorEntry 0 (0x55 :: []) 0) = true ∧
      exec (.chipSelectFall 0) running = .next fallen ∧
      exec (.firstByteWhole 0 0x04) fallen = .next (after (.firstByteWhole 0 0x04) fallen) :=
  ⟨rfl, rfl, rfl, rfl, by decide, rfl, rfl⟩

/-- With 7 and with 8 entries in the queue; and with no whole byte, 0 and 7 bits. -/
theorem witness_AFrameThatFailsIsAnsweredOrDropped :
    (running.port 0).openFor 0x55 = true ∧ (0x55 : Byte) ≠ 0x02 ∧ (7 : Nat) < 8 ∧
      frameCheck ((0x55 :: []).take 31) (min 255 ((0x55 : Byte) :: []).length) 0 = some .frame ∧
      ((fullOf running 0 7).port 0).queue.length < 8 ∧
      ¬ ((fullOf running 0 8).port 0).queue.length < 8 ∧
      (fallen.port 0).txn = .firstByte ∧ (fallen.port 0).droppedShown = false ∧
      (fallen.port 0).missedShown = false ∧
      ((fullOf fallen 0 8).port 0).txn = .firstByte ∧
      8 ≤ ((fullOf fallen 0 8).port 0).queue.length := by decide

theorem witness_ACommandIsDroppedOrAnsweredOnce :
    commandParts (.readTime 0 1) = some (0, .readTime, 1, []) ∧
      ((fullOf running 0 8).port 0).openFor (commandCode .readTime) = true ∧
      8 ≤ ((fullOf running 0 8).port 0).queue.length ∧ Command.readTime ≠ .portReset ∧
      (fullOf running 0 7).canTake 0 .readTime := by decide

theorem witness_AfterAResetAPortWaitsForTheRise :
    ((after (.rstNReset 1) running).port 0).awaitRise = true ∧
      ((after (.rstNReset 1) running).port 0).txn = .idle ∧
      commandParts (.readTime 0 1) = some (0, .readTime, 1, []) := by decide

/-- A unit held, one released, one waited for, and the lock held. -/
theorem witness_APortResetGivesACleanStart :
    held.canTake 0 .portReset ∧ held.present 1 = true ∧ (held.unit 1).ownedBy 0 = true ∧
      finishing.canTake 0 .portReset ∧ (finishing.unit 1).releasedBy 0 = true ∧
      session.canTake 0 .portReset ∧ session.setup.holder = some 0 ∧
      (∀ u : UnitNo, ¬ ((session.unit u).ownedBy 0 = true ∨
        (session.unit u).releasedBy 0 = true)) ∧ (2 : Port) ≠ 0 := by decide

theorem witness_StatusCommandsReportThePart :
    running.canTake 0 .readTime ∧ running.canTake 0 .ident ∧ running.canTake 0 .senseStatus := by
  decide

/-- A present unit, none above 3; a NORMAL and a TRIPPED one; an IDLE, a RUNNING and a GATED leg. -/
theorem witness_StatusCommandsReportUnitsTripsAndLegs :
    running.canTake 0 .unitStatus ∧ running.canTake 0 .readTrip ∧ running.canTake 0 .legStatus ∧
      running.names 0x03 3 ∧ (∀ u : UnitNo, ¬ running.names 0x04 u) ∧
      (running.trip 1).info = none ∧ (trippedHeld.trip 1).info = some anyTrip ∧
      trippedHeld.canTake 0 .readTrip ∧ (running.seq 1).active = none ∧
      ((playing held (playingSeg .off 0) (layoutOf (playingSeg .off 0)) 0).seq 1).active =
        some (playingSeg .off 0) ∧
      ((running.setSeq 1
        { LegSeq.reset with
          active := some { playingSeg .off 0 with gate := some .waiting } }).seq 1).active =
        some { playingSeg .off 0 with gate := some .waiting } := by decide

theorem witness_ReadConfigReportsTheTable :
    State.reset.canTake 0 .readConfig ∧ (0x03 : Byte).toNat = (3 : Leg).val ∧
      (0x07 : Byte).toNat = (7 : SenseNo).val ∧ 4 ≤ (0x04 : Byte).toNat ∧
      8 ≤ (0x08 : Byte).toNat ∧ (0x01 : Byte) ≠ 0x00 := by decide

theorem witness_OpenSetupGivesTheLockToOnePort :
    (running.canTake 0 .openSetup ∧ running.setup.phase = .run) ∧
      (State.reset.canTake 0 .openSetup ∧ State.reset.setup.phase = .setup ∧
        State.reset.setup.holder = none) ∧
      (session.canTake 0 .openSetup ∧ session.setup.holder = some 0) ∧
      (session.canTake 1 .openSetup ∧ session.setup.phase = .setup ∧ (0 : Port) ≠ 1) := by decide

theorem witness_CloseSetupGivesTheLockUp :
    (running.canTake 0 .closeSetup ∧ running.setup.phase = .run) ∧
      (session.canTake 0 .closeSetup ∧ session.setup.phase = .setup ∧
        session.setup.holder = some 0) ∧
      (session.canTake 1 .closeSetup ∧ session.setup.holder ≠ some 1) := by decide

theorem witness_OnlyTheHolderWritesTheTable :
    commandParts (.commit 1 4) = some (1, .commit, 4, []) ∧
      Command.commit ∈ [.setUnitMap, .setLeg, .setUnit, .setSense, .setSupervisor, .setSupply,
        .commit] ∧
      running.canTake 1 .commit ∧ running.setup.phase = .run ∧ session.canTake 1 .commit ∧
      session.setup.phase = .setup ∧ session.setup.holder ≠ some 1 := by decide

/-- The bounds of SET_LEG's values, met and passed by one. -/
theorem witness_TheHolderWritesMapAndLegs :
    session.setup.phase = .setup ∧ session.setup.holder = some 0 ∧
      session.canTake 0 .setUnitMap ∧ session.canTake 0 .setLeg ∧
      (0x03 : Byte).toNat = (⟨3, 3, 3, 3⟩ : Four UnitNo).e0.val ∧ 4 ≤ (0x04 : Byte).toNat ∧
      ((0x02 : Byte).toNat ≤ 2 ∧ (1023 : Half).toNat ≤ 1023 ∧ 1 ≤ (1 : Half).toNat ∧
        1 ≤ (65535 : Half).toNat ∧ (0x01 : Byte).toNat ≤ 1 ∧ (0x0F : Byte).toNat ≤ 15) ∧
      (0x02 : Byte) = kindByte .lowSide ∧ (0x01 : Byte) = idleByte .low ∧
      ¬ (1024 : Half).toNat ≤ 1023 ∧ ¬ 1 ≤ (0 : Half).toNat ∧ ¬ (0x10 : Byte).toNat ≤ 15 := by
  decide

theorem witness_TheHolderWritesTheOtherGroups :
    session.setup.phase = .setup ∧ session.setup.holder = some 0 ∧ session.canTake 0 .setUnit ∧
      session.canTake 0 .setSense ∧ session.canTake 0 .setSupervisor ∧
      session.canTake 0 .setSupply ∧
      ((0x0F : Byte).toNat ≤ 15 ∧ (50000 : Half).toNat ≤ 50000 ∧ 10 ≤ (10 : Half).toNat ∧
        (60000 : Half).toNat ≤ 60000) ∧
      ¬ (0x10 : Byte).toNat ≤ 15 ∧ ¬ (50001 : Half).toNat ≤ 50000 ∧ ¬ 10 ≤ (9 : Half).toNat ∧
      ((0x03 : Byte) = actionByte .latch ∧ (0x03 : Byte).toNat = (3 : Leg).val ∧
        (0x3F : Byte).toNat ≤ 63 ∧ (0x01 : Byte) = polarityByte .below ∧
        (0x02 : Byte) = windowByte .any ∧ 1 ≤ (0x01 : Byte).toNat ∧ (0x10 : Byte).toNat ≤ 16) ∧
      ¬ (0x40 : Byte).toNat ≤ 63 ∧ ¬ (0x11 : Byte).toNat ≤ 16 ∧ 8 ≤ (0x08 : Byte).toNat ∧
      (0x03 : Byte).toNat = (3 : Port).val ∧ 4 ≤ (0x04 : Byte).toNat ∧ (0x04 : Byte) ≠ 0xFF ∧
      (0x01 : Byte) ≠ 0x00 := by decide

/-- The session with MIN_ON above MAX_ON at leg 0, which COMMIT refuses with reason 1. -/
def unsound : State :=
  session.setBoard
    { session.board with
      legs := session.board.legs.set 0 { LegEntry.reset with minOn := 11, maxOn := 10 } }

theorem witness_CommitChecksTheTableAndBeginsRun :
    (unsound.canTake 0 .commit ∧ unsound.setup.phase = .setup ∧
        unsound.setup.holder = some 0 ∧ ¬ tableSound unsound.board) ∧
      (session.canTake 0 .commit ∧ session.setup.phase = .setup ∧
        session.setup.holder = some 0 ∧ tableSound session.board ∧ session.faultN = .high) ∧
      (after .faultNLowSpell session).faultN = .low ∧
      (∀ l : Leg, ((after .faultNLowSpell session).seq l).idleEmpty = true) := by
  refine ⟨⟨by decide, by decide, by decide, ?_⟩, ⟨by decide, by decide, by decide, ?_, by decide⟩,
    by decide, by decide⟩
  · unfold tableSound
    decide
  · unfold tableSound
    decide

/-- `running` with port 2 shut out of unit 1. -/
def shut : State :=
  running.setBoard
    { running.board with
      units := running.board.units.set 1
        { UnitEntry.reset with allowed := ⟨true, true, false, true⟩ } }

theorem witness_ClaimIsCheckedInOrder :
    (session.canTake 0 .claim ∧ session.setup.phase = .setup) ∧
      (running.canTake 0 .claim ∧ running.setup.phase = .run ∧
        (∀ u : UnitNo, ¬ running.names 0x04 u)) ∧
      (shut.canTake 2 .claim ∧ shut.names 0x01 1 ∧ (shut.unitEntry 1).allowed.get 2 = false) ∧
      ((held.unitEntry 1).allowed.get 0 = true ∧ ¬ 10 ≤ (9 : Half).toNat ∧
        10 ≤ (10 : Half).toNat ∧ (10000 : Half).toNat ≤ (held.unitEntry 1).maxLease ∧
        (held.unit 1).lease = .held ∧ (held.unit 1).owner = some 0) ∧
      ((held.setUnit 1 { lease 0 with wait := [waiter 2 none] }).unit 1).wait =
        [waiter 2 none] ∧
      (waiter 2 none).port = 2 := by decide

theorem witness_ClaimIsGrantedOrWaits :
    (Stage.reset.state = .forced ∧ Stage.reset.gh = false ∧ Stage.reset.gl = false ∧
        showsLow { LegEntry.reset with idle := .low } true = true ∧
        guards Guarded.gh .gl = false ∧ StageState.waiting ≠ .forced) ∧
    (running.canTake 0 .claim ∧ running.setup.phase = .run ∧ running.names 0x01 1 ∧
        (running.unitEntry 1).allowed.get 0 = true ∧ 10 ≤ (10 : Half).toNat ∧
        (10000 : Half).toNat ≤ (running.unitEntry 1).maxLease ∧ (0x01 : Byte).toNat ≤ 1 ∧
        (60000 : Half).toNat ≤ 60000 ∧ (running.unit 1).lease = .free ∧
        (running.unit 1).wait = []) ∧
      (held.canTake 2 .claim ∧ held.names 0x01 1 ∧ (held.unitEntry 1).allowed.get 2 = true ∧
        ¬ ((held.unit 1).lease = .held ∧ (held.unit 1).owner = some 2) ∧
        (held.unit 1).wait = [] ∧ (held.unit 1).lease ≠ .free) := by decide

theorem witness_WithdrawAndRenew :
    (∀ u : UnitNo, ¬ held.names 0x04 u) ∧ held.canTake 0 .withdraw ∧ held.canTake 0 .renew ∧
      held.names 0x01 1 ∧ (held.unit 1).wait = [] ∧
      (∃ w ∈ ((held.setUnit 1 { lease 0 with wait := [waiter 2 none] }).unit 1).wait,
        w.port = 2) ∧
      (held.unit 1).lease = .held ∧ (held.unit 1).owner = some 0 ∧
      (held.unit 1).period = some 1000 ∧
      ¬ ((finishing.unit 1).lease = .held ∧ (finishing.unit 1).owner = some 0) := by decide

/-- Leg 1 busy, and every leg of unit 1 idle and empty. -/
theorem witness_ReleaseFinishPlaysOutOrDrains :
    (let st := { Stage.reset with state := .resting, gl := true }
     st.state = .resting ∧ st.gh = false ∧ st.gl = true ∧ Stage.reset.state ≠ .resting) ∧
    held.canTake 0 .release ∧ held.names 0x01 1 ∧ (held.unit 1).lease = .held ∧
      (held.unit 1).owner = some 0 ∧
      (∀ l : Leg, held.unitOf l = 1 → (held.seq l).idleEmpty = true) ∧
      (let s := playing held (playingSeg .off 0) (layoutOf (playingSeg .off 0)) 0
       s.canTake 0 .release ∧ (s.unit 1).lease = .held ∧
        ∃ l : Leg, s.unitOf l = 1 ∧ (s.seq l).idleEmpty = false) := by decide

theorem witness_ReleaseIsCheckedAndAborts :
    held.canTake 0 .release ∧ (∀ u : UnitNo, ¬ held.names 0x04 u) ∧ held.names 0x01 1 ∧
      1 < (0x02 : Byte).toNat ∧ (0x01 : Byte).toNat ≤ 1 ∧
      ¬ ((held.unit 1).lease = .held ∧ (held.unit 1).owner = some 2) ∧
      ((held.unit 1).lease = .held ∧ (held.unit 1).owner = some 0) ∧
      finishing.canTake 0 .release ∧ (finishing.unit 1).lease = .releasing ∧
      (finishing.unit 1).releasing = some 0 := by decide

/-- `s` with port 3 as supervisor. -/
def supervised (s : State) : State := s.setBoard { s.board with supervisor := some 3 }

theorem witness_RevokeTakesALeaseAway :
    (session.canTake 3 .revoke ∧ session.setup.phase = .setup) ∧
      (held.canTake 3 .revoke ∧ held.setup.phase = .run ∧ (∀ u : UnitNo, ¬ held.names 0x04 u) ∧
        held.names 0x01 1 ∧ held.board.supervisor ≠ some 3) ∧
      ((supervised running).canTake 3 .revoke ∧ (supervised running).board.supervisor = some 3 ∧
        ((supervised running).unit 1).lease = .free) ∧
      ((supervised quieted).unit 1).lease = .quiet ∧ ((supervised held).unit 1).lease = .held ∧
      ((supervised finishing).unit 1).lease = .releasing := by decide

theorem witness_TheTimersOfAUnitEnd :
    (let s := held.setUnit 1 { lease 0 with remaining := 0 }
     (s.unit 1).remaining = 0 ∧ (s.unit 1).lease = .held) ∧
      (let s := finishing.setUnit 1 { finishing.unit 1 with remaining := 0 }
       (s.unit 1).remaining = 0 ∧ (s.unit 1).lease = .releasing) ∧
      (let s := running.setUnit 1 { UnitRec.reset with lease := .quiet }
       (s.unit 1).lease = .quiet ∧ (s.unit 1).quiet = 0 ∧ (s.unit 1).wait = []) ∧
      (let s := running.setUnit 1
          { UnitRec.reset with lease := .quiet, wait := [waiter 1 none, waiter 3 none] }
       (s.unit 1).quiet = 0 ∧ (s.unit 1).wait = waiter 1 none :: [waiter 3 none]) ∧
      (let s := held.setUnit 1 { lease 0 with wait := [waiter 2 none, waiter 1 (some 0)] }
       (s.unit 1).wait = [waiter 2 none] ++ waiter 1 (some 0) :: [] ∧
        (waiter 1 (some 0)).remaining = some 0 ∧
        ∀ x ∈ [waiter 2 none] ++ ([] : List WaitEntry), x.port ≠ (waiter 1 (some 0)).port) := by
  decide

/-- `held` with `n` segments pending behind a RUNNING one on leg 1. -/
def pendingOn (n : Nat) : State :=
  let s := playing held (playingSeg .off 2) (layoutOf (playingSeg .off 2)) 400
  s.setSeq 1 { s.seq 1 with queue := List.replicate n (plain .off 1), lowArmed := true }

theorem witness_EnqueueIsCheckedInOrder :
    (session.canTake 0 .enqueue ∧ session.setup.phase = .setup) ∧
      (held.canTake 0 .enqueue ∧ held.setup.phase = .run ∧ 4 ≤ (0x04 : Byte).toNat ∧
        (0x01 : Byte).toNat = (1 : Leg).val) ∧
      ¬ ((running.unit (running.unitOf 1)).lease = .held ∧
        (running.unit (running.unitOf 1)).owner = some 0) ∧
      ((held.unit (held.unitOf 1)).lease = .held ∧ (held.unit (held.unitOf 1)).owner = some 0) ∧
      ¬ trippedHeld.tripped (trippedHeld.unitOf 1) = false ∧
      held.tripped (held.unitOf 1) = false ∧ held.supply.state = .good ∧
      ¬ (held.setSupplyRec { state := .down, timer := 0 }).supply.state = .good ∧
      ¬ ((pendingOn 16).seq 1).queue.length < 16 ∧ ((pendingOn 15).seq 1).queue.length < 16 ∧
      acceptSegment (held.legEntry 1) { plainRaw 1 0 with period := 39 } = none := by decide

/-- A sound record; one whose coding can be read and whose period is below 40; one with a reserved
flag bit set. -/
theorem witness_AnAcceptedSegmentLiesInRange :
    (saysSegment (plainRaw 1 0) (plain .complementary 0) ∧
        fitsLeg LegEntry.reset (plain .complementary 0) ∧
        acceptSegment LegEntry.reset (plainRaw 1 0) = some (plain .complementary 0)) ∧
      acceptSegment LegEntry.reset { plainRaw 1 0 with period := 39 } = none ∧
      readSegment { plainRaw 1 0 with period := 39 } =
        some { plain .complementary 0 with period := 39 } ∧
      16 ≤ (0x10 : Byte).toNat ∧ (0x0C : Byte).toNat / 4 % 4 = 3 ∧ 5 ≤ (0x05 : Byte).toNat := by
  refine ⟨⟨?_, ?_, by decide⟩, by decide, by decide, by decide, by decide, by decide⟩
  · unfold saysSegment
    decide
  · unfold fitsLeg
    simp [plain, LegEntry.reset]

/-- A step of −60 on an on-time of 150: period 0 unclamped, period 3 at MIN_ON; and a step of 60. -/
theorem witness_ASteppedOnTimeIsClamped :
    let g := { plain .complementary 0 with step := some (-60) }
    let h := { plain .complementary 0 with step := some 60 }
    acceptSegment LegEntry.reset { plainRaw 3 0 with stepSign := 1, stepMagnitude := 60 } =
        some g ∧
      g.step = some (-60) ∧ g.mode = .complementary ∧ (g.onTime : Int) + 3 * (-60) < 10 ∧
      (10 : Int) ≤ g.onTime + 0 * (-60) ∧
      acceptSegment LegEntry.reset { plainRaw 3 0 with stepMagnitude := 60 } = some h ∧
      (360 : Int) < h.onTime + 4 * 60 ∧
      acceptSegment LegEntry.reset { plainRaw 1 0 with mode := 4 } = some (plain .off 0) := by
  decide

theorem witness_EnqueueAppendsOrStarts :
    let s := pendingOn 15
    (s.canTake 0 .enqueue ∧ s.setup.phase = .run ∧ (0x01 : Byte).toNat = (1 : Leg).val ∧
        (s.unit (s.unitOf 1)).lease = .held ∧ (s.unit (s.unitOf 1)).owner = some 0 ∧
        s.tripped (s.unitOf 1) = false ∧ s.supply.state = .good ∧
        (s.seq 1).queue.length < 16 ∧
        acceptSegment (s.legEntry 1) (plainRaw 1 0) = some (plain .complementary 0) ∧
        (s.seq 1).active = some (playingSeg .off 2)) ∧
      (held.seq 1).active = none ∧ (held.seq 1).queue = [] := by decide

theorem witness_FlushEmptiesALeg :
    (session.canTake 0 .flush ∧ session.setup.phase = .setup) ∧
      (held.canTake 0 .flush ∧ held.setup.phase = .run ∧ 4 ≤ (0x04 : Byte).toNat ∧
        (0x01 : Byte).toNat = (1 : Leg).val ∧ (held.unit (held.unitOf 1)).lease = .held ∧
        (held.unit (held.unitOf 1)).owner = some 0 ∧ 1 < (0x02 : Byte).toNat ∧
        (held.seq 1).active = none) ∧
      ¬ ((running.unit (running.unitOf 1)).lease = .held) ∧
      ((pendingOn 3).seq 1).active = some (playingSeg .off 2) := by decide

/-- Period 0 of a count of 2, at its end: not the last. -/
theorem witness_APeriodEndBeginsTheNextPeriod :
    let s := pendingOn 1
    let y := layoutOf (playingSeg .off 2)
    (s.seq 1).active = some (playingSeg .off 2) ∧ (s.stage 1).state = .playing y 400 ∧
      y.period ≤ 400 ∧ ¬ lastPeriod s 1 (playingSeg .off 2) y := by
  refine ⟨by decide, by decide, by decide, ?_⟩
  unfold lastPeriod
  decide

/-- Leg 1 at the end of the only period of an OFF segment, with `n` segments pending. -/
def ending (base : State) (n : Nat) : State :=
  let s := playing base (playingSeg .off 1) (layoutOf (playingSeg .off 1)) 400
  s.setSeq 1 { s.seq 1 with queue := List.replicate n (plain .off 1), lowArmed := true }

/-- The count's last period with 3 pending, which a take brings to the mark of 2; with none pending
in HELD; and with none pending in RELEASING. -/
theorem witness_ASegmentEndTakesTheNextOrGoesIdle :
    ((Stage.reset.gh && Stage.reset.gl) = false ∧
      ({ Stage.reset with gl := true }.gh && { Stage.reset with gl := true }.gl) = false ∧
      ({ Stage.reset with gh := true }.gh && { Stage.reset with gh := true }.gl) = false) ∧
    let y := layoutOf (playingSeg .off 1)
    let s := ending held 3
    ((s.seq 1).active = some (playingSeg .off 1) ∧ (s.stage 1).state = .playing y 400 ∧
        y.period ≤ 400 ∧ lastPeriod s 1 (playingSeg .off 1) y ∧
        (s.seq 1).queue = plain .off 1 :: [plain .off 1, plain .off 1] ∧
        (s.seq 1).lowArmed = true ∧ 2 = (s.legEntry 1).lowWater) ∧
      (let s := ending held 0
       lastPeriod s 1 (playingSeg .off 1) y ∧ (s.seq 1).queue = [] ∧
        (s.unit (s.unitOf 1)).lease ≠ .releasing) ∧
      (let s := ending finishing 0
       lastPeriod s 1 (playingSeg .off 1) y ∧ (s.seq 1).queue = [] ∧
        (s.unit (s.unitOf 1)).lease = .releasing ∧
        ∀ j : Leg, j ≠ 1 → s.unitOf j = s.unitOf 1 → (s.seq j).idleEmpty = true) := by
  refine ⟨by decide, ⟨by decide, by decide, by decide, ?_, by decide, by decide, by decide⟩,
    ⟨?_, by decide, by decide⟩, ⟨?_, by decide, by decide, by decide⟩⟩ <;>
    (unfold lastPeriod; decide)

/-- A closed and an open AT_TIME gate, at the two ends of the half of the circle; and the stages of
the three takes. -/
theorem witness_ATakeSetsSequencerAndStage :
    ((3000 : Stamp).toNat + 2 ^ 32 - (3000 : Stamp).toNat) % 2 ^ 32 < 2 ^ 31 ∧
      2 ^ 31 ≤ ((2999 : Stamp).toNat + 2 ^ 32 - (3000 : Stamp).toNat) % 2 ^ 32 ∧
      { plain .off 0 with gate := some (.onSync 15) }.gate = some (.onSync 15) ∧
      { playingSeg .off 0 with gate := some .waiting }.gate ≠ none ∧
      (playingSeg .off 0).gate = none ∧
      { Stage.reset with state := .resting, gl := true }.gl = true ∧ LegEntry.reset.dt ≠ 0 ∧
      ¬ (Stage.reset.state = .resting ∧ Stage.reset.gl = true) ∧
      (let st : Stage := { Stage.reset with gh := true }
       st.gh = true ∧ st.gl = false) ∧
      (let st : Stage := { Stage.reset with state := .resting, gl := true }
       st.gh = false ∧ st.gl = true ∧ st.state = .resting) ∧
      (Stage.reset.gh = false ∧ Stage.reset.gl = false) ∧
      { LegEntry.reset with kind := .lowSide, dt := 0 }.dt = 0 := by decide

theorem witness_GatesTurnOffAndOnUnderTheGuard :
    ({ Stage.reset with gh := true }.gh = true) ∧ (Stage.reset.gh = false ∧ Stage.reset.gl = false) ∧
      ({ Stage.reset with gh := true }.gh && { Stage.reset with gh := true }.gl) = false ∧
      (let st : Stage :=
          { Stage.reset with state := .resting, guarded := .none }
       let e : LegEntry := { LegEntry.reset with idle := .low }
       (settleStage e true st).gl = true ∧ st.gl = false) ∧
      (let st : Stage := { Stage.reset with state := .resting, gl := true, guarded := .none }
       (settleStage LegEntry.reset true st).gl = false ∧ st.gl = true ∧ LegEntry.reset.dt ≠ 0) ∧
      (let st : Stage :=
          { Stage.reset with
            state := .playing (layoutOf (playingSeg .highOnly 0)) 0, gl := true, guarded := .none }
       let e : LegEntry := { LegEntry.reset with dt := 0 }
       (wantedGates e true st).1 = true ∧ st.gl = true ∧ e.dt = 0) := by
  decide

/-- Each mode within its period, on the default HALF_BRIDGE leg, at the bound on-time + 2×DT; a period
cut at 64, at its last position; and a leg of each other kind, at rest and FORCED. -/
theorem witness_LayoutsAskForTheirIntervals :
    (let y := { layoutOf (playingSeg .highOnly 0) with cut := some 64 }
     y.mode = .highOnly ∧ y.cut = some 64 ∧ 64 ≤ 399 ∧ 399 < y.period ∧
      { LegEntry.reset with kind := .highSide }.kind ≠ .lowSide ∧
      { LegEntry.reset with kind := .lowSide }.kind ≠ .highSide ∧
      { Stage.reset with state := .resting }.state = .resting ∧ Stage.reset.state = .forced) ∧
    let y := layoutOf { playingSeg .complementary 0 with onTime := 360 }
    LegEntry.reset.kind = .halfBridge ∧
      ({ Stage.reset with state := .playing y 399 }).state = .playing y 399 ∧ 399 < y.period ∧
      y.cut = none ∧ y.mode = .complementary ∧ y.onTime + 2 * LegEntry.reset.dt ≤ y.period ∧
      LegEntry.reset.dt < y.period := by decide

/-- A continuous HOLD_LOW period at period − DT; a change of the layout at its on-time; a guard that
has run out; a leading dead time that has run out. -/
theorem witness_WaveformEventsMoveTheStage :
    (let a := playingSeg .holdLow 0
     let s := playing held a (layoutOf a) 380
     (s.stage 1).state = .playing (layoutOf a) 380 ∧ (s.seq 1).active = some a ∧
      a.seg.count = 0 ∧ (layoutOf a).mode = .holdLow ∧ (s.legEntry 1).dt ≠ 0 ∧
      (layoutOf a).judged = false ∧ 380 + (s.legEntry 1).dt = (layoutOf a).period) ∧
      (let a := playingSeg .highOnly 0
       let s := playing held a (layoutOf a) 0
       (s.stage 1).state = .playing (layoutOf a) 0 ∧ 0 < (layoutOf a).period ∧
        (settleStage (s.legEntry 1) (s.unitHeld 1) (s.stage 1)).gh ≠ (s.stage 1).gh) ∧
      (let s := running.setStage 1 { Stage.reset with deadTimer := 20 }
       (s.stage 1).guarded ≠ .none ∧ (s.legEntry 1).dt ≤ (s.stage 1).deadTimer) ∧
      (let y := layoutOf (playingSeg .off 0)
       let s := running.setStage 1 { Stage.reset with state := .leading y, deadTimer := 20 }
       (s.stage 1).state = .leading y ∧ (s.legEntry 1).dt ≤ (s.stage 1).deadTimer) := by decide

/-- Unarmed; armed and inactive; active and counted at the blank time; active and blanked below it;
active in a closed window. -/
theorem witness_ASampleIsJudged :
    let s := cutting 0
    ((running.sense 2).armed = false ∧ (s.sense 2).armed = true) ∧
      ((s.senseEntry 2).polarity = .above ∧ ((40 + 1) * 64 < 42 * 64) ∧ ¬ (40 + 1) * 64 < 41 * 64) ∧
      ((s.senseEntry 2).window = .highOn ∧ (s.stage 1).seen.gh = true ∧
        (s.stage 1).seen.ghBlank = some 63 ∧ (s.senseEntry 2).blank ≤ 63) ∧
      ¬ (30 : Nat) ≤ 29 ∧
      (let s := s.setStage 1 { s.stage 1 with seen := { gh := false, gl := false, ghBlank := none, glBlank := none } }
       (s.stage 1).seen.gh = false) ∧
      (let s := s.setSenseRec 2 { s.sense 2 with count := 2 }
       (s.sense 2).count + 1 < (s.senseEntry 2).qualify) := by decide

/-- The sample that brings the count from 3 to qualify 4: a NOTE, re-armed and not; a CYCLE, short of
the limit, at it, in a period already cut, and with GH off; a LATCH. -/
theorem witness_AnActivationTakesItsAction :
    let s := cutting 0
    ((s.sense 2).armed = true ∧ (s.sense 2).qualified = false ∧
        (s.senseEntry 2).qualify ≤ (s.sense 2).count + 1 ∧ (s.senseEntry 2).polarity = .above ∧
        (s.stage (s.senseEntry 2).target).seen.gh = true ∧
        (s.stage (s.senseEntry 2).target).seen.ghBlank = some 63 ∧
        (s.senseEntry 2).blank ≤ 63) ∧
      (((sensing .note .any).senseEntry 2).action = .note ∧
        ((sensing .note .any).sense 2).rearm = true ∧
        ((sensing .note .any).senseEntry 2).window = .any) ∧
      ((sensing .latch .any).senseEntry 2).action = .latch ∧
      ((s.senseEntry 2).action = .cycle ∧
        (s.stage 1).state = .playing (layoutOf (playingSeg .complementary 0)) 64 ∧
        (s.stage 1).gh = true ∧ (s.seq 1).cutSeen = false ∧ (s.legEntry 1).escalation = 0) ∧
      ((cutting 1).legEntry 1).escalation ≠ 0 ∧
      min 255 (((cutting 1).seq 1).escalation + 1) = ((cutting 1).legEntry 1).escalation ∧
      ((s.setSeq 1 { s.seq 1 with cutSeen := true }).seq 1).cutSeen = true ∧
      ((s.setStage 1 { s.stage 1 with gh := false }).stage 1).gh = false := by decide

theorem witness_ATripRequestTripsOrIsRecorded :
    ((held.trip 1).info = none ∧ (held.unit 1).lease ≠ .releasing) ∧
      ((finishing.trip 1).info = none ∧ (finishing.unit 1).lease = .releasing) ∧
      (trippedHeld.trip 1).info = some anyTrip := by decide

theorem witness_FaultNTripsEveryPresentUnit :
    (trippedHeld.faultN = .high ∧ trippedHeld.setup.phase = .run ∧ trippedHeld.present 3 = true ∧
        (trippedHeld.trip 3).info = none ∧ (trippedHeld.trip 1).info = some anyTrip) ∧
      (finishing.faultN = .high ∧ finishing.setup.phase = .run ∧
        (finishing.unit 1).lease = .releasing) ∧
      (session.faultN = .high ∧ session.setup.phase = .setup) ∧
      (after .faultNLowSpell session).faultN = .low := by decide

/-- `trippedHeld` with input 5 armed for LATCH at leg 1, window ANY, its raw level `v`. -/
def latched (v : Level) : State :=
  let s := trippedHeld.setBoard
    { trippedHeld.board with
      senses := trippedHeld.board.senses.set 5
        { SenseEntry.reset 1 with action := .latch } }
  s.setSenseRec 5 { SenseRec.reset with armed := true, raw := v }

theorem witness_ClearTripIsCheckedAndClears :
    (session.canTake 0 .clearTrip ∧ session.setup.phase = .setup) ∧
      (held.canTake 0 .clearTrip ∧ held.setup.phase = .run ∧ (∀ u : UnitNo, ¬ held.names 0x04 u) ∧
        held.names 0x01 1 ∧ (held.unit 1).lease = .held ∧ (held.unit 1).owner = some 0 ∧
        (held.trip 1).info = none) ∧
      ¬ ((held.unit 1).owner = some 2) ∧ (trippedHeld.trip 1).info ≠ none ∧
      trippedHeld.canTake 0 .clearTrip ∧ trippedHeld.faultN = .high ∧
      (∀ n : SenseNo, (trippedHeld.sense n).armed = false) ∧
      (after .faultNLowSpell trippedHeld).faultN = .low ∧
      (((latched .high).sense 5).armed = true ∧ ((latched .high).senseEntry 5).action = .latch ∧
        (latched .high).unitOf ((latched .high).senseEntry 5).target = 1 ∧
        ((latched .high).senseEntry 5).window = .any ∧
        readsActive ((latched .high).senseEntry 5).polarity ((latched .high).sense 5).raw = true) ∧
      readsActive ((latched .low).senseEntry 5).polarity ((latched .low).sense 5).raw = false := by
  decide

theorem witness_TheSupplyLeavesAndReachesGood :
    (State.reset.supply.state = .down ∧ 1400000 < 1400001) ∧
      ((State.reset.setSupplyRec { state := .settling, timer := 0 }).supply.state = .settling ∧
        (State.reset.setSupplyRec { state := .settling, timer := 0 }).supply.timer = 0 ∧
        1099999 < 1100000) ∧
      held.supply.state = .good ∧
      ((finishing.unit 1).lease = .releasing ∧ finishing.supply.state = .good) := by decide

/-- The step from 999 and the step from 998; a QUIET unit and one that is not. -/
theorem witness_TheTimestampSteps :
    (running.setTime { running.time with subMs := 999 }).time.subMs = 999 ∧
      (running.setTime { running.time with subMs := 998 }).time.subMs ≠ 999 ∧
      (quieted.unit 1).lease = .quiet ∧ (held.unit 1).lease ≠ .quiet := by decide

theorem witness_TheTickAndTheLockTimer :
    (session.setLock (some 0) 0).setup.holder ≠ none ∧
      (session.setLock (some 0) 0).setup.inactivity = 0 := by decide

/-- `held` with leg 1 GATED on `g`, in state `st`. -/
def gated (g : StartGate) (st : GateState) : State :=
  held.setSeq 1
    { LegSeq.reset with
      active := some
        { playingSeg .off 0 with seg := { plain .off 0 with gate := some g }, gate := some st } }

theorem witness_StartGatesOpen :
    (let st := { Stage.reset with state := .waiting, fromIdleLow := true, deadTimer := 19 }
     st.fromIdleLow = true ∧ st.deadTimer < LegEntry.reset.dt ∧
      ¬ (Stage.reset.fromIdleLow = true ∧ Stage.reset.deadTimer < LegEntry.reset.dt)) ∧
    (((gated (.atTime 0) .waiting).seq 1).active.map Active.gate = some (some .waiting) ∧
        ((gated (.atTime 0) .waiting).seq 1).active.map (fun a => a.seg.gate) =
          some (some (.atTime 0)) ∧
        ((gated (.atTime 0) .waiting).time.stamp.toNat + 2 ^ 32 - (0 : Stamp).toNat) % 2 ^ 32 <
          2 ^ 31) ∧
      2 ^ 31 ≤ ((gated (.atTime 1) .waiting).time.stamp.toNat + 2 ^ 32 - (1 : Stamp).toNat) %
        2 ^ 32 ∧
      ((running.setTime { running.time with syncLast := some .low }).time.syncLast = some .low ∧
        Level.high = .high) ∧
      ¬ (running.time.syncLast = some .low) ∧
      ((gated (.onSync 2) (.edges 2)).seq 1).active.map Active.gate = some (some (.edges 2)) ∧
      2 ≤ 2 ∧
      ((gated (.onSync 2) (.edges 1)).seq 1).active.map Active.gate = some (some (.edges 1)) ∧
      (held.seq 1).active = none := by decide

/-- The laws hold together in RUN with a unit held, where the clock's step is a next state. -/
theorem witness_EveryStepKeepsTheLaws :
    held.deadTimeLaw ∧ held.driveLaw ∧ held.pendingQueueLaw ∧ held.tripLaw ∧ held.leaseLaw ∧
      held.replyQueueLaw ∧ held.lockLaw ∧ held.senseLaw ∧ step held = .next held.wu := by
  refine ⟨by decide, by decide, by decide, by decide, by decide, by decide, by decide, by decide,
    rfl⟩

/-- The same with a leg playing, GH on and a CYCLE input armed. -/
theorem witness_EveryStepKeepsTheLaws_in_run :
    let s := { cutting 1 with pending := [.senseSample 2 42 64] }
    s.deadTimeLaw ∧ s.driveLaw ∧ s.pendingQueueLaw ∧ s.tripLaw ∧ s.leaseLaw ∧ s.replyQueueLaw ∧
      s.lockLaw ∧ s.senseLaw ∧
      step s = .next (after (.senseSample 2 42 64) (cutting 1)) := by
  refine ⟨by decide, by decide, by decide, by decide, by decide, by decide, by decide, by decide,
    rfl⟩

theorem witness_TheBoardIsFrozenInRun :
    running.setup.phase = .run ∧ running.lockLaw ∧
      step { running with pending := [.commit 0 1] } = .next (after (.commit 0 1) running) ∧
      step { running with pending := [.powerOnReset 0] } =
        .next (after (.powerOnReset 0) running) := by
  refine ⟨by decide, by decide, rfl, rfl⟩

end Sys2Proof.Tests
end

section
/-! PROOFS. Chapter 08, reading the board table and the setup lock: what a command row comes to at
its port when its owner's answer is known, what each of the three commands answers case by case, and
the statements O19, O20 and O21. -/

namespace Sys2Proof.Machine

/-! ### A command row whose owner's answer is known -/

/-- R155: an answer that places no notice, whatever the port records are, is what the row comes
to. -/
theorem completes_of_response {i : Instr} {s s' : State} {p : Port} {c : Command} {seq : Byte}
    {respond : State → Response} {result : Result} {data : List Byte} {effect : State → State}
    (hexec : exec i s = .next (s.command p c seq respond)) (htake : s.canTake p c)
    (hresp : ∀ P : Four PortRec, respond { s with ports := P } = ⟨result, data, effect⟩)
    (heff : ∀ Q : Four PortRec, effect { s with ports := Q } = { s' with ports := Q }) :
    Completes i s p c seq result data s' := by
  unfold Completes CompletesTelling
  rw [hexec]
  congr 1
  refine s.command_completes s' p c seq respond result data (fun _ => []) htake fun P => ?_
  rw [hresp P]
  exact ⟨rfl, rfl, fun Q => by rw [State.told_nil]; exact heff Q⟩

/-- R170: a refusal is answered without data and changes nothing. -/
theorem refuses_of_response {i : Instr} {s : State} {p : Port} {c : Command} {seq : Byte}
    {respond : State → Response} {result : Result}
    (hexec : exec i s = .next (s.command p c seq respond)) (htake : s.canTake p c)
    (hresp : ∀ P : Four PortRec, respond { s with ports := P } = refuse result) :
    Refuses i s p c seq result :=
  completes_of_response hexec htake hresp fun _ => rfl

/-- A status command's answer is its data and changes nothing. -/
theorem reports_of_response {i : Instr} {s : State} {p : Port} {c : Command} {seq : Byte}
    {respond : State → Response} {data : List Byte}
    (hexec : exec i s = .next (s.command p c seq respond)) (htake : s.canTake p c)
    (hresp : ∀ P : Four PortRec, respond { s with ports := P } = report data) :
    Reports i s p c seq data :=
  completes_of_response hexec htake hresp fun _ => rfl

theorem exec_readConfig (p : Port) (seq kind index : Byte) (s : State) :
    exec (.readConfig p seq kind index) s =
      .next (s.command p .readConfig seq (readConfigResponse kind index)) := rfl
theorem exec_openSetup (p : Port) (seq : Byte) (s : State) :
    exec (.openSetup p seq) s = .next (s.command p .openSetup seq (openSetupResponse p)) := rfl
theorem exec_closeSetup (p : Port) (seq : Byte) (s : State) :
    exec (.closeSetup p seq) s = .next (s.command p .closeSetup seq (closeSetupResponse p)) := rfl

/-! ### Index bytes (R167) -/

theorem index4_of_toNat_eq {b : Byte} {i : Fin 4} (h : b.toNat = i.val) : index4 b = some i := by
  simp [index4, h]
theorem index4_of_le {b : Byte} (h : 4 ≤ b.toNat) : index4 b = none := dif_neg (Nat.not_lt.mpr h)
theorem index8_of_toNat_eq {b : Byte} {i : Fin 8} (h : b.toNat = i.val) : index8 b = some i := by
  simp [index8, h]
theorem index8_of_le {b : Byte} (h : 8 ≤ b.toNat) : index8 b = none := dif_neg (Nat.not_lt.mpr h)

/-! ### What READ_CONFIG answers (R144) -/

theorem readConfigResponse_leg {index : Byte} {l : Leg} (h : index.toNat = l.val) (s : State) :
    readConfigResponse 0x00 index s = report (legConfig (s.legEntry l)) := by
  simp [readConfigResponse, index4_of_toNat_eq h]

theorem readConfigResponse_unit {index : Byte} {u : UnitNo} (h : index.toNat = u.val) (s : State) :
    readConfigResponse 0x01 index s = report (unitConfig (s.unitEntry u) (s.present u)) := by
  simp [readConfigResponse, index4_of_toNat_eq h]

theorem readConfigResponse_sense {index : Byte} {n : SenseNo} (h : index.toNat = n.val)
    (s : State) : readConfigResponse 0x02 index s = report (senseConfig (s.senseEntry n)) := by
  simp [readConfigResponse, index8_of_toNat_eq h]

theorem readConfigResponse_whole (s : State) :
    readConfigResponse 0x03 0x00 s = report (wholeConfig s.setup) := rfl

theorem readConfigResponse_no_leg {index : Byte} (h : 4 ≤ index.toNat) (s : State) :
    readConfigResponse 0x00 index s = refuse .noSuch := by
  simp [readConfigResponse, index4_of_le h]

theorem readConfigResponse_no_unit {index : Byte} (h : 4 ≤ index.toNat) (s : State) :
    readConfigResponse 0x01 index s = refuse .noSuch := by
  simp [readConfigResponse, index4_of_le h]

theorem readConfigResponse_no_sense {index : Byte} (h : 8 ≤ index.toNat) (s : State) :
    readConfigResponse 0x02 index s = refuse .noSuch := by
  simp [readConfigResponse, index8_of_le h]

theorem readConfigResponse_no_whole {index : Byte} (h : index ≠ 0x00) (s : State) :
    readConfigResponse 0x03 index s = refuse .noSuch := if_neg h

/-- The kinds of item are 0x00 to 0x03 (R170). -/
theorem readConfigResponse_unknown {kind : Byte} (h : 4 ≤ kind.toNat) (index : Byte) (s : State) :
    readConfigResponse kind index s = refuse .range := by
  have ne_of_lt : ∀ k : Byte, k.toNat < 4 → kind ≠ k := by
    rintro k hk rfl
    omega
  rw [readConfigResponse, if_neg (ne_of_lt 0x00 (by decide)), if_neg (ne_of_lt 0x01 (by decide)),
    if_neg (ne_of_lt 0x02 (by decide)), if_neg (ne_of_lt 0x03 (by decide))]

/-! ### What OPEN_SETUP and CLOSE_SETUP answer (R134, R136) -/

theorem openSetupResponse_run (p : Port) {s : State} (h : s.setup.phase = .run) :
    openSetupResponse p s = refuse .notSetup := by
  simp [openSetupResponse, h]

theorem openSetupResponse_granted {p : Port} {s : State} (h : s.setup.phase = .setup)
    (hp : s.setup.holder = none ∨ s.setup.holder = some p) :
    openSetupResponse p s = ⟨.ok, [], fun s => s.setLock (some p) Config.lockLimit⟩ := by
  rcases hp with hnone | hown
  · simp [openSetupResponse, h, hnone]
  · simp [openSetupResponse, h, hown]

theorem openSetupResponse_busy {p k : Port} {s : State} (h : s.setup.phase = .setup)
    (hk : s.setup.holder = some k) (hne : k ≠ p) :
    openSetupResponse p s = ⟨.setupBusy, [numByte k], fun s => s⟩ := by
  simp [openSetupResponse, h, hk, hne]

theorem closeSetupResponse_run (p : Port) {s : State} (h : s.setup.phase = .run) :
    closeSetupResponse p s = refuse .notSetup := by
  simp [closeSetupResponse, h]

theorem closeSetupResponse_holder {p : Port} {s : State} (h : s.setup.phase = .setup)
    (hp : s.setup.holder = some p) :
    closeSetupResponse p s = ⟨.ok, [], fun s => s.setLock none 0⟩ := by
  simp [closeSetupResponse, h, hp]

theorem closeSetupResponse_other {p : Port} {s : State} (h : s.setup.phase = .setup)
    (hp : s.setup.holder ≠ some p) : closeSetupResponse p s = refuse .notHolder := by
  simp [closeSetupResponse, h, hp]

/-! ### The statements -/

/-- Settles O19: the answer is found by the kind of the item and its index, and none of the fields
that it shows lies in the port records. -/
theorem readConfigReportsTheTable : Obligations.ReadConfigReportsTheTable := by
  intro p seq index s htake
  have report_at {kind index : Byte} {data : List Byte} :
      (∀ P : Four PortRec, readConfigResponse kind index { s with ports := P } = report data) →
        Reports (.readConfig p seq kind index) s p .readConfig seq data :=
    reports_of_response (exec_readConfig p seq kind index s) htake
  have refuse_at {kind index : Byte} {result : Result} :
      (∀ P : Four PortRec, readConfigResponse kind index { s with ports := P } = refuse result) →
        Refuses (.readConfig p seq kind index) s p .readConfig seq result :=
    refuses_of_response (exec_readConfig p seq kind index s) htake
  refine ⟨?leg, ?unit, ?sense, ?whole, ?noLegOrUnit, ?noSense, ?noWhole, ?unknown⟩
  case leg => exact fun l h => report_at fun _ => readConfigResponse_leg h _
  case unit => exact fun u h => report_at fun _ => readConfigResponse_unit h _
  case sense => exact fun n h => report_at fun _ => readConfigResponse_sense h _
  case whole =>
    rintro rfl
    exact report_at fun _ => readConfigResponse_whole _
  case noLegOrUnit =>
    exact fun h => ⟨refuse_at fun _ => readConfigResponse_no_leg h _,
      refuse_at fun _ => readConfigResponse_no_unit h _⟩
  case noSense => exact fun h => refuse_at fun _ => readConfigResponse_no_sense h _
  case noWhole => exact fun h => refuse_at fun _ => readConfigResponse_no_whole h _
  case unknown => exact fun kind h => refuse_at fun _ => readConfigResponse_unknown h index _

/-- Settles O20: the cases of R134 are those of the phase and the lock holder. -/
theorem openSetupGivesTheLockToOnePort : Obligations.OpenSetupGivesTheLockToOnePort := by
  intro p seq s htake
  have hexec := exec_openSetup p seq s
  refine ⟨?run, ?granted, ?busy⟩
  case run =>
    exact fun hrun => refuses_of_response hexec htake fun _ => openSetupResponse_run p hrun
  case granted =>
    exact fun hsetup hp => completes_of_response hexec htake
      (fun _ => openSetupResponse_granted hsetup hp) fun _ => rfl
  case busy =>
    exact fun k hsetup hk hne => completes_of_response hexec htake
      (fun _ => openSetupResponse_busy hsetup hk hne) fun _ => rfl

/-- Settles O21: the cases of R136 are those of the phase and the lock holder. -/
theorem closeSetupGivesTheLockUp : Obligations.CloseSetupGivesTheLockUp := by
  intro p seq s htake
  have hexec := exec_closeSetup p seq s
  refine ⟨?run, ?holder, ?other⟩
  case run =>
    exact fun hrun => refuses_of_response hexec htake fun _ => closeSetupResponse_run p hrun
  case holder =>
    exact fun hsetup hp => completes_of_response hexec htake
      (fun _ => closeSetupResponse_holder hsetup hp) fun _ => rfl
  case other =>
    exact fun hsetup hp =>
      refuses_of_response hexec htake fun _ => closeSetupResponse_other hsetup hp

end Sys2Proof.Machine
end

section
/-! PROOFS. What a step can do, said once. A row of the part is a reset, or a move of the port
records, one act of a block, and a move of the port records again (R155: the reply stands before the
notices of the event). `Act` lists the acts with the premises under which a row takes them; every law
of the whole part is then kept by each act. -/

namespace Sys2Proof.Machine

/-! ### What a command row is answered -/

/-- The owner's answer to a command row; PORT_RESET and the events have no answer of this form. -/
def respondOf : Instr → State → Response
  | .ident _ _ => identResponse
  | .readTime _ _ => readTimeResponse
  | .openSetup p _ => openSetupResponse p
  | .closeSetup p _ => closeSetupResponse p
  | .setUnitMap p _ u0 u1 u2 u3 => setUnitMapResponse p u0 u1 u2 u3
  | .setLeg p _ leg kind dt minOn maxOn idle low esc =>
      setLegResponse p leg kind dt minOn maxOn idle low esc
  | .setUnit p _ unit allowed quiet maxLease => setUnitResponse p unit allowed quiet maxLease
  | .setSense p _ sense action target code polarity window blank qualify =>
      setSenseResponse p sense action target code polarity window blank qualify
  | .setSupervisor p _ port => setSupervisorResponse p port
  | .setSupply p _ settle => setSupplyResponse p settle
  | .readConfig _ _ kind index => readConfigResponse kind index
  | .commit p _ => commitResponse p
  | .claim p _ unit period mode limit => claimResponse p unit period mode limit
  | .withdraw p _ unit => withdrawResponse p unit
  | .renew p _ unit => renewResponse p unit
  | .release p _ unit option => releaseResponse p unit option
  | .revoke p _ unit => revokeResponse p unit
  | .unitStatus _ _ unit => unitStatusResponse unit
  | .enqueue p _ leg raw => enqueueResponse p leg raw
  | .flush p _ leg option => flushResponse p leg option
  | .legStatus _ _ leg => legStatusResponse leg
  | .senseStatus _ _ => senseStatusResponse
  | .readTrip _ _ unit => readTripResponse unit
  | .clearTrip p _ unit => clearTripResponse p unit
  | _ => fun _ => refuse .noSuch

/-- R155: every command row but PORT_RESET is a command that its owner answers. -/
theorem exec_command {i : Instr} {p : Port} {c : Command} {seq : Byte} {body : List Byte}
    (h : commandParts i = some (p, c, seq, body)) (hc : c ≠ .portReset) (s : State) :
    exec i s = .next (s.command p c seq (respondOf i)) := by
  cases i <;> simp only [commandParts, Option.some.injEq, Prod.mk.injEq, reduceCtorEq] at h <;>
    obtain ⟨rfl, rfl, rfl, -⟩ := h
  case portReset => exact absurd rfl hc
  all_goals rfl

/-- A command row of PORT_RESET. -/
theorem portReset_of_parts {i : Instr} {p : Port} {seq : Byte} {body : List Byte}
    (h : commandParts i = some (p, .portReset, seq, body)) : i = .portReset p seq := by
  cases i <;> simp only [commandParts, Option.some.injEq, Prod.mk.injEq, reduceCtorEq] at h
  all_goals simp_all

/-! ### Acts -/

/-- The four record functions of the waveform events of a leg (R38, R57, R60, R66). -/
inductive WaveAct : (LegEntry → Bool → Stage → Stage) → Prop
  | judge (final : Bool) : WaveAct (judgeStage final)
  | change : WaveAct settleStage
  | release : WaveAct releaseStage
  | lead : WaveAct leadStage

/-- The part after the timers of one millisecond (R122). -/
def State.ticked (s : State) : State :=
  four.foldl (fun s u => s.tickUnit u)
    { s with
      time := { s.time with ticksDue := s.time.ticksDue - 1 }
      setup := s.setup.tick, supply := s.supply.tick }

/-- Port `p` gives up every lease, wait and lock it has (R25, R147). -/
def State.leftBy (s : State) (p : Port) : State :=
  (four.foldl (fun s u => s.resetUnitFor p u) s).dropLockOf p

/-- What one row does to the part besides the records of its own port, each with the premises under
which a row does it. -/
inductive Act (s : State) : State → Prop
  | rest : Act s s
  | sampleFaultN (v : Level) : Act s { s with faultN := v }
  | spell (hrun : s.setup.phase = .run) : Act s ({ s with faultN := .low } : State).tripAll
  | clock (t : Timebase) : Act s (s.setTime t)
  | edge (t : Timebase) : Act s (s.setTime t).syncEdge
  | timestampStep :
      Act s ((s.setUnits (s.units.mapIdx fun _ r => r.quietStep)).setTime s.time.step)
  | tick : Act s s.ticked
  | wu : Act s s.wu
  | supply (v : Supply) (hs : s.supply.state ≠ .good) (hv : v.state ≠ .good) :
      Act s (s.setSupplyRec v)
  | leaveGood : Act s s.leaveGood
  | enterGood (hs : s.supply.state = .settling) : Act s s.enterGood
  | lock (p : Port) (hsetup : s.setup.phase = .setup) :
      Act s (s.setLock (some p) Config.lockLimit)
  | unlock (h : s.setup.holder ≠ none) : Act s (s.setLock none 0)
  | board (p : Port) (b : Board) (hsetup : s.setup.phase = .setup)
      (hmap : b.unitMap = s.board.unitMap) :
      Act s ((s.setBoard b).setLock (some p) Config.lockLimit)
  | unitMap (p : Port) (m : Four UnitNo) (hsetup : s.setup.phase = .setup) :
      Act s ((s.setUnitMap m).setLock (some p) Config.lockLimit)
  | commit (hsetup : s.setup.phase = .setup) : Act s s.enterRun.faultCheck
  | leave (p : Port) : Act s (s.leftBy p)
  | claim (u : UnitNo) (p : Port) (ms : Nat) (hfree : (s.unit u).lease = .free) :
      Act s (s.grant u p ms)
  | joinWait (u : UnitNo) (w : WaitEntry) (hfree : (s.unit u).lease ≠ .free)
      (howner : ¬ ((s.unit u).lease = .held ∧ (s.unit u).owner = some w.port))
      (hwait : ∀ x ∈ (s.unit u).wait, x.port ≠ w.port) : Act s (s.joinWait u w)
  | dropWaits (u : UnitNo) (keep : WaitEntry → Bool) :
      Act s (s.setUnit u { s.unit u with wait := (s.unit u).wait.filter keep })
  | renew (u : UnitNo) (hheld : (s.unit u).lease = .held) :
      Act s (s.setUnit u (s.unit u).renewed)
  | finish (u : UnitNo) (hheld : (s.unit u).lease = .held) : Act s (s.finishLease u)
  | abort (u : UnitNo) (n : Option Notice) : Act s (s.abort u n)
  | endQuiet (u : UnitNo) (hquiet : (s.unit u).lease = .quiet) : Act s (s.endQuiet u)
  | append (l : Leg) (g : Segment) (hdrive : s.drivePermitted l = true)
      (hroom : (s.seq l).queue.length < 16) : Act s (s.appendSegment l g)
  | flushPending (l : Leg) : Act s (s.setSeq l (s.seq l).flushPending)
  | flushAll (l : Leg) : Act s (s.flushAll l)
  | clearTrip (u : UnitNo) (htripped : s.tripped u = true) : Act s (s.clearTrip u)
  | openGate (l : Leg) : Act s (s.openGate l)
  | endPeriod (l : Leg) (a : Active) (y : Layout) (pos : Nat)
      (hactive : (s.seq l).active = some a) (hplay : (s.stage l).state = .playing y pos) :
      Act s (s.endPeriod l a y)
  | wave (l : Leg) (f : LegEntry → Bool → Stage → Stage) (hf : WaveAct f) : Act s (s.onStage l f)
  | sample (n : SenseNo) (v : Level) : Act s (s.sample n v)

/-! ### Moves of the port records -/

/-- `t` is `s` but for the port records, and the limits of the reply queues (R154) are kept. -/
structure Ported (s t : State) : Prop where
  frame : t = { s with ports := t.ports }
  queues : s.replyQueueLaw → t.replyQueueLaw

theorem Ported.refl (s : State) : Ported s s := ⟨rfl, id⟩

theorem Ported.trans {s t u : State} (h : Ported s t) (h' : Ported t u) : Ported s u where
  frame := by rw [h'.frame, h.frame]
  queues hs := h'.queues (h.queues hs)

/-- R154 for one reply queue. -/
abbrev queueLawful (q : List Entry) : Prop := q.length ≤ 8 ∧ noticeCount q ≤ 7

/-- One port record written. -/
theorem Ported.setPort {s : State} {p : Port} {r : PortRec}
    (h : queueLawful (s.port p).queue → queueLawful r.queue) : Ported s (s.setPort p r) where
  frame := rfl
  queues hs k := by
    by_cases hk : k = p
    · subst hk
      rw [State.setPort_port_same]
      exact h (hs k)
    · rw [State.setPort_port_ne _ _ _ _ hk]
      exact hs k

/-- A reply or ERROR entry in a queue with room keeps the limits. -/
theorem queueLawful_append {q : List Entry} {e : Entry} (he : e.isNotice = false)
    (hroom : q.length < 8) (h : queueLawful q) : queueLawful (q ++ [e]) := by
  obtain ⟨-, hnotices⟩ := h
  refine ⟨by simpa using hroom, ?_⟩
  simpa [noticeCount, he] using hnotices

theorem Ported.place {s : State} {p : Port} {e : Entry} (he : e.isNotice = false)
    (hroom : (s.port p).queue.length < 8) : Ported s (s.place p e) :=
  Ported.setPort (queueLawful_append he hroom)

/-- An offered notice keeps the limits of a queue (R154). -/
theorem PortRec.offer_queueLawful {r : PortRec} (n : Notice) (t : Stamp)
    (h : queueLawful r.queue) : queueLawful (r.offer n t).queue := by
  obtain ⟨hlen, hnotices, heq⟩ | heq := r.offer_cases n t
  · rw [heq]
    refine ⟨?_, ?_⟩
    · simpa [PortRec.append] using hlen
    · simpa [PortRec.append, noticeCount, Entry.isNotice] using hnotices
  · rw [heq]
    exact h

theorem PortRec.offerAll_queueLawful (ns : List Notice) {r : PortRec} (t : Stamp)
    (h : queueLawful r.queue) : queueLawful (r.offerAll ns t).queue := by
  induction ns generalizing r with
  | nil => exact h
  | cons n ns ih => exact ih (r.offer_queueLawful n t h)

theorem Ported.notify (s : State) (p : Port) (n : Notice) : Ported s (s.notify p n) :=
  Ported.setPort fun h => (s.port p).offer_queueLawful n s.time.stamp h

theorem Ported.finish (s : State) (p : Port) (out : List Byte) (n : Nat) :
    Ported s (s.finish p out n) := Ported.setPort id

theorem Ported.dropFrame (s : State) (p : Port) : Ported s (s.dropFrame p) := Ported.setPort id

theorem Ported.riseAfterReset (s : State) (p : Port) : Ported s (s.riseAfterReset p) :=
  Ported.setPort id

/-! ### Rows -/

/-- A row that is no reset: moves of the port records about one act. -/
inductive Row (s t : State) : Prop
  | mk (s₁ t₁ : State) (before : Ported s s₁) (act : Act s₁ t₁) (after : Ported t₁ t)

theorem Row.of_act {s t : State} (h : Act s t) : Row s t := ⟨s, t, .refl s, h, .refl t⟩
theorem Row.of_ported {s t : State} (h : Ported s t) : Row s t := ⟨s, s, .refl s, .rest, h⟩
theorem Row.of_ported_row {s t u : State} (h : Ported s t) (h' : Row t u) : Row s u := by
  obtain ⟨s₁, t₁, before, act, after⟩ := h'
  exact ⟨s₁, t₁, h.trans before, act, after⟩
theorem Row.of_row_ported {s t u : State} (h : Row s t) (h' : Ported t u) : Row s u := by
  obtain ⟨s₁, t₁, before, act, after⟩ := h
  exact ⟨s₁, t₁, before, act, after.trans h'⟩

/-! ### Transactions -/

@[simp] theorem PortRec.firstByte_queue (r : PortRec) (b : Byte) :
    (r.firstByte b).queue = r.queue := by
  unfold PortRec.firstByte
  split <;> rfl

/-- A transaction that has come to its first byte has left the reply queue as it was. -/
theorem PortRec.reach_queue {r r' : PortRec} {i : StatusItems} {b : Byte}
    (h : r.reach i b = some r') : r'.queue = r.queue := by
  unfold PortRec.reach at h
  split at h
  · cases h
    exact PortRec.firstByte_queue _ _
  · cases h
    exact PortRec.firstByte_queue _ _
  · split at h <;> cases h
    rfl
  · split at h <;> cases h
    rfl

theorem PortRec.reachFrame_queue {r r' : PortRec} {i : StatusItems} {bytes : List Byte}
    (h : r.reachFrame i bytes = some r') : r'.queue = r.queue := by
  unfold PortRec.reachFrame at h
  split at h
  · exact PortRec.reach_queue h
  · split at h <;> cases h <;> rfl

/-- R155: the taking of a command is a row when its carrying out is. -/
theorem State.takeCommand_row {s : State} {p : Port} {c : Command} {carry : State → State}
    (h : ∀ s', (s'.port p).queue.length < 8 → Row s' (carry s')) :
    Row s (s.takeCommand p c carry) := by
  unfold State.takeCommand
  split
  · exact .of_ported (.riseAfterReset s p)
  · split
    next => exact .of_act .rest
    next r hr =>
      have hclear : Ported s (s.setPort p r.clearShown) :=
        .setPort fun hq => (PortRec.reach_queue hr).symm ▸ hq
      refine .of_ported_row hclear ?_
      · dsimp only
        refine .of_row_ported ?_ (.finish _ p [] _)
        split
        next hroom => exact h _ (of_decide_eq_true hroom)
        next => exact .of_ported (.dropFrame _ p)

/-- R155: a command is a row when its effect is an act, whatever the port records are in which the
owner read the part. -/
theorem State.command_row {s : State} {p : Port} {c : Command} {seq : Byte}
    {respond : State → Response}
    (h : ∀ (s : State) (P : Four PortRec), Act s ((respond { s with ports := P }).effect s)) :
    Row s (s.command p c seq respond) := by
  refine State.takeCommand_row fun s' hroom => ?_
  have hact := h (s'.place p (.reply c seq (respond s').result (respond s').data)) s'.ports
  exact .of_ported_row (.place rfl hroom) (.of_act hact)

/-! ### The acts of the commands -/

/-- A lease command is an act when it is one on every present unit. -/
theorem onUnit_act {s s' : State} {b : Byte} {rest : UnitNo → Response}
    (h : ∀ u, s'.present u = true → Act s ((rest u).effect s)) :
    Act s ((onUnit s' b rest).effect s) := by
  unfold onUnit
  split
  next u hu =>
    refine h u ?_
    unfold State.presentUnit at hu
    split at hu
    next v _ =>
      split at hu <;> cases hu
      assumption
    next => cases hu
  next => exact .rest

theorem onLeg_act {s : State} {b : Byte} {rest : Leg → Response}
    (h : ∀ l, Act s ((rest l).effect s)) : Act s ((onLeg b rest).effect s) := by
  unfold onLeg
  split
  · exact h _
  · exact .rest

/-- A command of the lock holder (R138) is an act when it is one in SETUP. -/
theorem asHolder_act {s s' : State} {p : Port} {rest : Response}
    (h : s'.setup.phase = .setup → Act s (rest.effect s)) :
    Act s ((asHolder p s' rest).effect s) := by
  unfold asHolder
  split
  · exact .rest
  next hphase =>
    split
    · exact .rest
    · exact h (not_not.mp hphase)

theorem writeOrRange_act {α : Type} {s : State} {p : Port} {v : Option α}
    {write : α → State → State}
    (h : ∀ x, Act s ((write x s).setLock (some p) Config.lockLimit)) :
    Act s ((writeOrRange p v write).effect s) := by
  unfold writeOrRange
  split
  · exact .rest
  · exact h _

theorem openSetupResponse_act (s : State) (P : Four PortRec) (p : Port) :
    Act s ((openSetupResponse p { s with ports := P }).effect s) := by
  unfold openSetupResponse
  split
  · exact .rest
  next hphase =>
    have hsetup : s.setup.phase = .setup := not_not.mp hphase
    split
    · exact .lock p hsetup
    · split
      · exact .lock p hsetup
      · exact .rest

theorem closeSetupResponse_act (s : State) (P : Four PortRec) (p : Port) :
    Act s ((closeSetupResponse p { s with ports := P }).effect s) := by
  unfold closeSetupResponse
  split
  · exact .rest
  · split
    · exact .rest
    next hholder =>
      refine .unlock fun hnone => hholder ?_
      simp [hnone]

theorem setUnitMapResponse_act (s : State) (P : Four PortRec) (p : Port) (u0 u1 u2 u3 : Byte) :
    Act s ((setUnitMapResponse p u0 u1 u2 u3 { s with ports := P }).effect s) :=
  asHolder_act fun hsetup => writeOrRange_act fun m => .unitMap p m hsetup

theorem setLegResponse_act (s : State) (P : Four PortRec) (p : Port) (leg kind : Byte)
    (dt minOn maxOn : Half) (idle low esc : Byte) :
    Act s ((setLegResponse p leg kind dt minOn maxOn idle low esc { s with ports := P }).effect
      s) := by
  refine asHolder_act fun hsetup => ?_
  split
  · exact .rest
  · exact writeOrRange_act fun e => .board p _ hsetup rfl

theorem setUnitResponse_act (s : State) (P : Four PortRec) (p : Port) (unit allowed : Byte)
    (quiet maxLease : Half) :
    Act s ((setUnitResponse p unit allowed quiet maxLease { s with ports := P }).effect s) := by
  refine asHolder_act fun hsetup => ?_
  split
  · exact .rest
  · exact writeOrRange_act fun e => .board p _ hsetup rfl

theorem setSenseResponse_act (s : State) (P : Four PortRec) (p : Port)
    (sense action target code polarity window blank qualify : Byte) :
    Act s ((setSenseResponse p sense action target code polarity window blank qualify
      { s with ports := P }).effect s) := by
  refine asHolder_act fun hsetup => ?_
  split
  · exact .rest
  · exact writeOrRange_act fun e => .board p _ hsetup rfl

theorem setSupervisorResponse_act (s : State) (P : Four PortRec) (p : Port) (port : Byte) :
    Act s ((setSupervisorResponse p port { s with ports := P }).effect s) :=
  asHolder_act fun hsetup => writeOrRange_act fun _ => .board p _ hsetup rfl

theorem setSupplyResponse_act (s : State) (P : Four PortRec) (p : Port) (settle : Byte) :
    Act s ((setSupplyResponse p settle { s with ports := P }).effect s) :=
  asHolder_act fun hsetup => writeOrRange_act fun _ => .board p _ hsetup rfl

theorem readConfigResponse_act (s s' : State) (kind index : Byte) :
    Act s ((readConfigResponse kind index s').effect s) := by
  unfold readConfigResponse
  repeat' split
  all_goals exact .rest

theorem commitResponse_act (s : State) (P : Four PortRec) (p : Port) :
    Act s ((commitResponse p { s with ports := P }).effect s) := by
  refine asHolder_act fun hsetup => ?_
  split
  · exact .lock p hsetup
  · exact .commit hsetup

theorem claimResponse_act (s : State) (P : Four PortRec) (p : Port) (unit : Byte) (period : Half)
    (mode : Byte) (limit : Half) :
    Act s ((claimResponse p unit period mode limit { s with ports := P }).effect s) := by
  unfold claimResponse
  split
  · exact .rest
  · refine onUnit_act fun u _ => ?_
    split
    · exact .rest
    · split
      · exact .rest
      · unfold claimInRange
        dsimp only
        split
        · exact .rest
        next howner =>
          split
          · exact .rest
          next hwait =>
            split
            next hfree => exact .claim u p _ hfree
            next hfree =>
              split
              · refine .joinWait u _ hfree ?_ ?_
                · exact fun h => howner (decide_eq_true h)
                · intro x hx hport
                  exact hwait (List.any_eq_true.mpr ⟨x, hx, decide_eq_true hport⟩)
              · exact .rest

theorem withdrawResponse_act (s : State) (P : Four PortRec) (p : Port) (unit : Byte) :
    Act s ((withdrawResponse p unit { s with ports := P }).effect s) := by
  refine onUnit_act fun u _ => ?_
  split
  · exact .dropWaits u _
  · exact .rest

theorem renewResponse_act (s : State) (P : Four PortRec) (p : Port) (unit : Byte) :
    Act s ((renewResponse p unit { s with ports := P }).effect s) := by
  refine onUnit_act fun u _ => ?_
  split
  next howned => exact .renew u (of_decide_eq_true howned).1
  · exact .rest

theorem releaseResponse_act (s : State) (P : Four PortRec) (p : Port) (unit option : Byte) :
    Act s ((releaseResponse p unit option { s with ports := P }).effect s) := by
  refine onUnit_act fun u _ => ?_
  split
  · exact .rest
  · split
    next howned =>
      split
      · exact .abort u none
      · exact .finish u (of_decide_eq_true howned).1
    · split
      · split
        · exact .abort u none
        · exact .rest
      · exact .rest

theorem revokeResponse_act (s : State) (P : Four PortRec) (p : Port) (unit : Byte) :
    Act s ((revokeResponse p unit { s with ports := P }).effect s) := by
  unfold revokeResponse
  split
  · exact .rest
  · refine onUnit_act fun u _ => ?_
    split
    · exact .rest
    · split
      · exact .abort u (some (.leaseLost u .revoked))
      · exact .rest

theorem enqueueResponse_act (s : State) (P : Four PortRec) (p : Port) (leg : Byte)
    (raw : RawSegment) :
    Act s ((enqueueResponse p leg raw { s with ports := P }).effect s) := by
  unfold enqueueResponse
  split
  · exact .rest
  next hphase =>
    refine onLeg_act fun l => ?_
    split
    · exact .rest
    next howns =>
      split
      · exact .rest
      next htripped =>
        split
        · exact .rest
        next hsupply =>
          split
          · exact .rest
          next hroom =>
            split
            · exact .rest
            · refine .append l _ ?_ (Nat.not_le.mp hroom)
              have howns : ((s.unit (s.unitOf l)).ownedBy p) = true := Bool.not_eq_false _ ▸ howns
              have hheld := (of_decide_eq_true howns).1
              have htripped : s.tripped (s.unitOf l) = false := Bool.not_eq_true _ ▸ htripped
              have hrun : s.setup.phase = .run := not_not.mp hphase
              have hgood : s.supply.state = .good := not_not.mp hsupply
              simp [State.drivePermitted, hheld, htripped, hrun, hgood]

theorem flushResponse_act (s : State) (P : Four PortRec) (p : Port) (leg option : Byte) :
    Act s ((flushResponse p leg option { s with ports := P }).effect s) := by
  unfold flushResponse
  split
  · exact .rest
  · refine onLeg_act fun l => ?_
    split
    · exact .rest
    · split
      · exact .rest
      · exact .flushAll l
      · exact .flushPending l

theorem clearTripResponse_act (s : State) (P : Four PortRec) (p : Port) (unit : Byte) :
    Act s ((clearTripResponse p unit { s with ports := P }).effect s) := by
  unfold clearTripResponse
  split
  · exact .rest
  · refine onUnit_act fun u _ => ?_
    split
    · exact .rest
    · split
      · exact .rest
      next htripped =>
        split
        · exact .rest
        · exact .clearTrip u (Bool.not_eq_false _ ▸ htripped)

/-- R155: the effect of every command that an owner answers is an act. -/
theorem respondOf_act (i : Instr) (s : State) (P : Four PortRec) :
    Act s ((respondOf i { s with ports := P }).effect s) := by
  cases i
  case openSetup => exact openSetupResponse_act ..
  case closeSetup => exact closeSetupResponse_act ..
  case setUnitMap => exact setUnitMapResponse_act ..
  case setLeg => exact setLegResponse_act ..
  case setUnit => exact setUnitResponse_act ..
  case setSense => exact setSenseResponse_act ..
  case setSupervisor => exact setSupervisorResponse_act ..
  case setSupply => exact setSupplyResponse_act ..
  case readConfig => exact readConfigResponse_act ..
  case commit => exact commitResponse_act ..
  case claim => exact claimResponse_act ..
  case withdraw => exact withdrawResponse_act ..
  case renew => exact renewResponse_act ..
  case release => exact releaseResponse_act ..
  case revoke => exact revokeResponse_act ..
  case unitStatus => exact onUnit_act fun _ _ => .rest
  case enqueue => exact enqueueResponse_act ..
  case flush => exact flushResponse_act ..
  case legStatus => exact onLeg_act fun _ => .rest
  case readTrip => exact onUnit_act fun _ _ => .rest
  case clearTrip => exact clearTripResponse_act ..
  all_goals exact .rest

/-! ### PORT_RESET -/

/-- A port that waits for no unit is told nothing by a grant (R6). -/
theorem State.grantTold_other {s : State} {u : UnitNo} {p : Port} (tripped : Bool)
    (h : ∀ w ∈ (s.unit u).wait, w.port ≠ p) : s.grantTold u tripped p = [] := by
  unfold State.grantTold
  cases hw : (s.unit u).wait with
  | nil => rfl
  | cons w rest =>
    have hne : w.port ≠ p := h w (by simp [hw])
    by_cases hzero : (s.unitEntry u).quiet = 0
    · simp [hzero, toPort, hne]
    · simp [hzero]

/-- R25: PORT_RESET at a unit takes the port's wait entry out, and aborts the unit if the port holds
or releases it. -/
theorem State.resetUnitFor_cases (s : State) (p : Port) (u : UnitNo) :
    s.resetUnitFor p u = s ∨ s.resetUnitFor p u = s.leaveWait u p ∨
      s.resetUnitFor p u = (s.leaveWait u p).abort u none := by
  unfold State.resetUnitFor
  split
  · dsimp only
    split
    · exact .inr (.inr rfl)
    · exact .inr (.inl rfl)
  · exact .inl rfl

theorem State.leaveWait_wait_ne {s : State} {u : UnitNo} {p : Port} :
    ∀ w ∈ ((s.leaveWait u p).unit u).wait, w.port ≠ p := by
  simp [State.leaveWait]

/-- R25: PORT_RESET at a unit tells its own port nothing. -/
theorem State.resetUnitFor_port_self (s : State) (p : Port) (u : UnitNo) :
    (s.resetUnitFor p u).port p = s.port p := by
  obtain h | h | h := s.resetUnitFor_cases p u <;> rw [h]
  · rfl
  · rw [State.abort_eq]
    show Four.get _ p = _
    rw [State.told_get, State.grantTold_other _ State.leaveWait_wait_ne]
    rfl

theorem State.leftBy_port_self (s : State) (p : Port) : (s.leftBy p).port p = s.port p := by
  unfold State.leftBy State.dropLockOf
  have hfold : (four.foldl (fun s u => s.resetUnitFor p u) s).port p = s.port p := by
    simp only [four, List.foldl_cons, List.foldl_nil, State.resetUnitFor_port_self]
  split
  · rw [← hfold]
    rfl
  · exact hfold

/-- R161: PORT_RESET empties the queue, gives up the leases, waits and lock of the port, and then
places its one reply. -/
theorem State.portReset_row (s : State) (p : Port) (seq : Byte) : Row s (s.portReset p seq) := by
  have hempty : Ported s (s.setPort p (s.port p).empty) :=
    .setPort fun _ => ⟨Nat.zero_le _, Nat.zero_le _⟩
  refine .of_ported_row hempty (.of_row_ported (.of_act (.leave p)) (.place rfl ?_))
  rw [State.leftBy_port_self, State.setPort_port_same]
  exact Nat.zero_lt_succ 7

/-! ### Every row -/

theorem execErrorEntry_row {p : Port} {bytes : List Byte} {bits : Nat} {s t : State}
    (h : exec (.errorEntry p bytes bits) s = .next t) : Row s t := by
  injection h with h
  subst h
  split
  · exact .of_ported (.riseAfterReset s p)
  · split
    · split
      next => exact .of_act .rest
      next r hr =>
        have hqueue : r.queue = (s.port p).queue := PortRec.reachFrame_queue hr
        refine .of_ported (Ported.trans (.setPort fun hq => ?_) (.finish _ p [] _))
        rw [← hqueue] at hq
        split
        · exact hq
        · unfold PortRec.answerFrame
          split
          · split
            next hroom => exact queueLawful_append rfl (of_decide_eq_true hroom) hq
            next => exact hq
          · exact hq
    · exact .of_act .rest

theorem queueLawful_tail {q : List Entry} (h : queueLawful q) : queueLawful q.tail := by
  obtain ⟨hlen, hnotices⟩ := h
  refine ⟨?_, (q.tail_sublist.countP_le).trans hnotices⟩
  rw [List.length_tail]
  omega

theorem execReadFrame_row {p : Port} {clocked : Nat} {s t : State}
    (h : exec (.readFrame p clocked) s = .next t) : Row s t := by
  injection h with h
  subst h
  split
  · exact .of_ported (.riseAfterReset s p)
  · split
    next => exact .of_act .rest
    next r hr =>
      refine .of_ported (Ported.trans (.setPort fun hq => ?_) (.finish _ p _ _))
      rw [← PortRec.reach_queue hr] at hq
      show queueLawful (r.collect clocked).queue
      unfold PortRec.collect
      split
      · split
        · exact queueLawful_tail hq
        · exact hq
      · exact hq
      · exact hq

/-- A row of the two resets (R163). -/
def IsReset (i : Instr) (s t : State) : Prop :=
  ∃ cs, (i = .powerOnReset cs ∧ t = s.resetBy .powerOn cs) ∨
    (i = .rstNReset cs ∧ t = s.resetBy .pin cs)

/-- An event that has no effect when its premise does not hold (log 2). -/
theorem Act.of_ite {s t : State} {c : Prop} [Decidable c] (h : c → Act s t) :
    Act s (if c then t else s) := by
  split
  next hc => exact h hc
  next => exact .rest

theorem execFaultNLowSpell_act (s : State) :
    Act s (if s.faultN = .high then
      let s := { s with faultN := .low }
      if s.setup.phase = .run then s.tripAll else s
    else s) := by
  refine .of_ite fun _ => ?_
  dsimp only
  split
  next hrun => exact .spell hrun
  next => exact .sampleFaultN .low

theorem execSyncRisingEdge_act (sample : Level) (s : State) :
    Act s (if decide (s.time.syncLast = some .low ∧ sample = .high) then
      (s.setTime { s.time with syncLast := some sample }).syncEdge
    else s.setTime { s.time with syncLast := some sample }) := by
  split
  · exact .edge _
  · exact .clock _

theorem execPeriodEnd_act (l : Leg) (s : State) :
    Act s (if s.periodDue l then
      match (s.stage l).state, (s.seq l).active with
      | .playing lay _, some a => s.endPeriod l a lay
      | _, _ => s
    else s) := by
  refine .of_ite fun _ => ?_
  split
  next y pos a hplay hactive => exact .endPeriod l a y pos hactive hplay
  next => exact .rest

theorem execClaimTimeout_row {u : UnitNo} {p : Port} {s t : State}
    (h : exec (.claimTimeout u p) s = .next t) : Row s t := by
  injection h with h
  subst h
  split
  · exact .of_row_ported (.of_act (.dropWaits u _)) (.notify _ p _)
  · exact .of_act .rest

/-- What a row that is no command does: it is one of the two resets, or moves of the port records
about one act. -/
theorem exec_event_cases {i : Instr} {s t : State} (hparts : commandParts i = none)
    (h : exec i s = .next t) : IsReset i s t ∨ Row s t := by
  cases i <;> simp only [commandParts, reduceCtorEq] at hparts
  case powerOnReset cs =>
    injection h with h
    exact .inl ⟨cs, .inl ⟨rfl, h.symm⟩⟩
  case rstNReset cs =>
    injection h with h
    exact .inl ⟨cs, .inr ⟨rfl, h.symm⟩⟩
  all_goals right
  case errorEntry => exact execErrorEntry_row h
  case readFrame => exact execReadFrame_row h
  case claimTimeout => exact execClaimTimeout_row h
  all_goals
    injection h with h
    subst h
  case chipSelectFall p =>
    split
    · exact .of_ported (.setPort id)
    · exact .of_act .rest
  case firstByteWhole p b =>
    split
    · exact .of_ported (.setPort fun hq => by rwa [PortRec.firstByte_queue])
    · exact .of_act .rest
  all_goals refine .of_act ?_
  case faultNLowSpell => exact execFaultNLowSpell_act s
  case syncRisingEdge sample => exact execSyncRisingEdge_act sample s
  case supplyLeavingGood vg => exact .of_ite fun _ => .leaveGood
  case vgHighSample vg => exact .of_ite fun hs => .supply _ (by simp [hs.1]) (by simp)
  case vgLowSampleSettling vg => exact .of_ite fun hs => .supply _ (by simp [hs.1]) (by simp)
  case settleTimerExpiry => exact .of_ite fun hs => .enterGood (of_decide_eq_true hs).1
  case timestampStep => exact .timestampStep
  case millisecondTick => exact .tick
  case leaseExpiry u => exact .of_ite fun _ => .abort u (some (.leaseLost u .expired))
  case quietEnd u => exact .of_ite fun hq => .endQuiet u (of_decide_eq_true hq).1
  case setupLockInactivityExpiry =>
    refine .of_ite fun hlock => .unlock fun hnone => ?_
    simp [State.lockDue, hnone] at hlock
  case atTimeOpening l => exact .of_ite fun _ => .openGate l
  case periodEnd l => exact execPeriodEnd_act l s
  case decisionPoint l => exact .of_ite fun _ => .wave l _ (.judge _)
  case layoutGateChange l => exact .of_ite fun _ => .wave l _ .change
  case deadTimeGuardExpiry l => exact .of_ite fun _ => .wave l _ .release
  case leadingDeadTimeEnd l => exact .of_ite fun _ => .wave l _ .lead
  case senseSample n sns vref => exact .sample n _
  case faultNRise => exact .sampleFaultN .high

/-- What a row can do: it is one of the two resets, or moves of the port records about one act. -/
theorem exec_cases {i : Instr} {s t : State} (h : exec i s = .next t) :
    IsReset i s t ∨ Row s t := by
  rcases hparts : commandParts i with _ | ⟨p, c, seq, body⟩
  · exact exec_event_cases hparts h
  · right
    by_cases hreset : c = .portReset
    · subst hreset
      obtain rfl := portReset_of_parts hparts
      injection h with h
      subst h
      exact State.takeCommand_row fun s' _ => s'.portReset_row p seq
    · rw [exec_command hparts hreset] at h
      injection h with h
      subst h
      exact State.command_row (respondOf_act i)

theorem mem_dueRow {due : Bool} {i j : Instr} : i ∈ dueRow due j ↔ due = true ∧ i = j := by
  unfold dueRow
  split <;> simp_all

/-- No reset is an event of the part's own clock. -/
theorem not_isReset_of_mem_dueRows {i : Instr} {s t : State} (h : i ∈ s.dueRows) :
    ¬ IsReset i s t := by
  rintro ⟨cs, ⟨rfl, -⟩ | ⟨rfl, -⟩⟩ <;>
    simp [State.dueRows, State.legRows, State.unitRows, mem_dueRow] at h

/-- What a step can do, in a state with any queue of waiting rows. -/
theorem step_cases {s t : State} (h : step s = .next t) :
    ∃ q : List Instr, Row { s with pending := q } t ∨
      ∃ i, s.pending = i :: q ∧ IsReset i { s with pending := q } t := by
  unfold step at h
  split at h
  next i rest hp =>
    refine ⟨rest, ?_⟩
    obtain hreset | hrow := exec_cases h
    · exact .inr ⟨i, hp, hreset⟩
    · exact .inl hrow
  next hp =>
    refine ⟨s.pending, .inl ?_⟩
    split at h
    next i rest hdue =>
      obtain hreset | hrow := exec_cases h
      · exact absurd hreset (not_isReset_of_mem_dueRows (s := s) (by simp [hdue]))
      · exact hrow
    next =>
      injection h with h
      subst h
      exact .of_act .wu

/-- A law of the part that does not read the queue of waiting rows is kept by every step when the
resets establish it and every row keeps it. -/
theorem step_keeps {K : State → Prop} {L : State → Prop} {s t : State}
    (hpending : ∀ s q, K s → K { s with pending := q })
    (hreset : ∀ (s : State) c cs, L (s.resetBy c cs))
    (hrow : ∀ s t, K s → Row s t → L t) (hs : K s) (h : step s = .next t) : L t := by
  obtain ⟨q, hr | ⟨i, -, cs, ⟨-, rfl⟩ | ⟨-, rfl⟩⟩⟩ := step_cases h
  · exact hrow _ _ (hpending s q hs) hr
  · exact hreset _ _ _
  · exact hreset _ _ _

end Sys2Proof.Machine
end

section
/-! PROOFS. The Gate Output Stage as a chain of elementary moves of one stage record (R57, R58), each
of which keeps the dead-time law of the leg, and O53: every act changes the stage of a leg by such
moves alone. -/

namespace Sys2Proof.Machine

/-! ### Moves of one stage record -/

/-- What the operations of the Gate Output Stage at a leg with entry `e` are made of. A turn-on is one
of a gate the leg's kind has (R54). -/
inductive StageMove (e : LegEntry) : Stage → Stage → Prop
  | refl (st : Stage) : StageMove e st st
  | trans {a b c : Stage} (h : StageMove e a b) (h' : StageMove e b c) : StageMove e a c
  | enter (st : Stage) (x : StageState) (idleLow : Bool) :
      StageMove e st { st with state := x, fromIdleLow := idleLow }
  | unguard (st : Stage) : StageMove e st { st with guarded := .none }
  | offGH (st : Stage) : StageMove e st (turnOffGH e.dt st)
  | offGL (st : Stage) : StageMove e st (turnOffGL e.dt st)
  | onGH (st : Stage) (hkind : e.kind ≠ .lowSide) : StageMove e st (turnOnGH st)
  | onGL (st : Stage) (hkind : e.kind ≠ .highSide) : StageMove e st (turnOnGL st)
  | bothOff (st : Stage) (x : StageState) : StageMove e st (bothOff e.dt x st)
  | wu (st : Stage) : StageMove e st (wuStage st)

/-- The gates asked for are gates of the leg's kind (R54), or, at a period's end, present ones. -/
theorem kindGates_fst {k : LegKind} {w : Bool × Bool} (h : (kindGates k w).1 = true) :
    k ≠ .lowSide := by
  rintro rfl
  cases h

theorem kindGates_snd {k : LegKind} {w : Bool × Bool} (h : (kindGates k w).2 = true) :
    k ≠ .highSide := by
  rintro rfl
  cases h

theorem wantedGates_fst {e : LegEntry} {held : Bool} {st : Stage}
    (h : (wantedGates e held st).1 = true) : e.kind ≠ .lowSide := by
  unfold wantedGates at h
  split at h
  · exact kindGates_fst h
  · exact kindGates_fst h
  all_goals cases h

theorem wantedGates_snd {e : LegEntry} {held : Bool} {st : Stage}
    (h : (wantedGates e held st).2 = true) : e.kind ≠ .highSide := by
  unfold wantedGates at h
  split at h
  · exact kindGates_snd h
  · exact kindGates_snd h
  all_goals cases h

theorem turnOffs_move (e : LegEntry) (w : Bool × Bool) (st : Stage) :
    StageMove e st (turnOffs e.dt w st) := by
  have hGH : StageMove e st (if w.1 then st else turnOffGH e.dt st) := by
    split
    · exact .refl st
    · exact .offGH st
  have hGL (st : Stage) : StageMove e st (if w.2 then st else turnOffGL e.dt st) := by
    split
    · exact .refl st
    · exact .offGL st
  exact hGH.trans (hGL _)

theorem turnOns_move {e : LegEntry} {w : Bool × Bool} (st : Stage)
    (hGH : w.1 = true → e.kind ≠ .lowSide) (hGL : w.2 = true → e.kind ≠ .highSide) :
    StageMove e st (turnOns w st) := by
  have honGH : StageMove e st (if w.1 then turnOnGH st else st) := by
    split
    next h => exact .onGH st (hGH h)
    next => exact .refl st
  have honGL (st : Stage) : StageMove e st (if w.2 then turnOnGL st else st) := by
    split
    next h => exact .onGL st (hGL h)
    next => exact .refl st
  exact honGH.trans (honGL _)

theorem settleStage_move (e : LegEntry) (held : Bool) (st : Stage) :
    StageMove e st (settleStage e held st) :=
  (turnOffs_move e _ st).trans (turnOns_move _ wantedGates_fst wantedGates_snd)

theorem releaseStage_move (e : LegEntry) (held : Bool) (st : Stage) :
    StageMove e st (releaseStage e held st) :=
  (StageMove.unguard st).trans (turnOns_move _ wantedGates_fst wantedGates_snd)

theorem idleStage_move (e : LegEntry) (held : Bool) (st : Stage) :
    StageMove e st (idleStage e held st) := by
  unfold idleStage
  split
  · exact settleStage_move e held st
  · exact .refl st

theorem forceStage_move (e : LegEntry) (st : Stage) : StageMove e st (forceStage e st) :=
  .bothOff st .forced

theorem stopStage_move (e : LegEntry) (held : Bool) (st : Stage) :
    StageMove e st (stopStage e held st) :=
  (StageMove.bothOff st .resting).trans (settleStage_move e held _)

theorem restStage_move (e : LegEntry) (held : Bool) (st : Stage) :
    StageMove e st (restStage e held st) := by
  unfold restStage
  split
  · exact (StageMove.enter st .resting st.fromIdleLow).trans (settleStage_move e held _)
  · exact .refl st

theorem beginPeriod_move (e : LegEntry) (held : Bool) (y : Layout) (st : Stage) :
    StageMove e st (beginPeriod e held y st) :=
  (StageMove.enter st (.playing y 0) false).trans (settleStage_move e held _)

theorem takeStage_move (e : LegEntry) (held : Bool) (a : Active) (st : Stage) :
    StageMove e st (takeStage e held a st) := by
  unfold takeStage
  dsimp only
  split
  · exact (StageMove.enter st .waiting _).trans (settleStage_move e held _)
  · split
    · split
      · exact (StageMove.offGL st).trans (beginPeriod_move e held _ _)
      · exact (StageMove.enter st (.leading _) true).trans (settleStage_move e held _)
    · exact beginPeriod_move e held _ st

theorem openStage_move (e : LegEntry) (held : Bool) (a : Active) (st : Stage) :
    StageMove e st (openStage e held a st) := by
  unfold openStage
  split
  · exact .enter st (.leading _) st.fromIdleLow
  · exact beginPeriod_move e held _ st

theorem endStage_move (e : LegEntry) (held : Bool) (st : Stage) :
    StageMove e st (endStage e held st) :=
  ((StageMove.offGH st).trans (.offGL _)).trans
    ((StageMove.enter _ .resting false).trans (settleStage_move e held _))

theorem cutStage_move (e : LegEntry) (st : Stage) : StageMove e st (cutStage e st) := by
  unfold cutStage
  split
  · exact (StageMove.enter st (.playing _ _) st.fromIdleLow).trans (.offGH _)
  all_goals exact .refl st

/-- The waveform events of a leg move its stage record. -/
theorem WaveAct.move {f : LegEntry → Bool → Stage → Stage} (hf : WaveAct f) (e : LegEntry)
    (held : Bool) (st : Stage) : StageMove e st (f e held st) := by
  cases hf with
  | judge final =>
    unfold judgeStage
    split
    · exact (StageMove.enter st (.playing _ _) st.fromIdleLow).trans (settleStage_move e held _)
    all_goals exact .refl st
  | change => exact settleStage_move e held st
  | release => exact releaseStage_move e held st
  | lead =>
    unfold leadStage
    split
    · exact beginPeriod_move e held _ st
    all_goals exact .refl st

/-! ### The dead-time law of one stage record -/

/-- R57 at one leg: the gates are never on together, and no guarded gate is on. -/
abbrev Stage.safe (st : Stage) : Prop :=
  (st.gh && st.gl) = false ∧ (st.gh = true → guards st.guarded .gh = false) ∧
    (st.gl = true → guards st.guarded .gl = false)

theorem turnOffGH_safe {dt : Nat} {st : Stage} (h : st.safe) : (turnOffGH dt st).safe := by
  cases hgh : st.gh with
  | false => rwa [turnOffGH_off hgh]
  | true =>
    obtain ⟨hboth, -, -⟩ := h
    have hgl : st.gl = false := by simpa [hgh] using hboth
    rw [turnOffGH_on hgh]
    simp [Stage.safe, hgl]

theorem turnOffGL_safe {dt : Nat} {st : Stage} (h : st.safe) : (turnOffGL dt st).safe := by
  cases hgl : st.gl with
  | false => rwa [turnOffGL_off hgl]
  | true =>
    obtain ⟨hboth, -, -⟩ := h
    have hgh : st.gh = false := by simpa [hgl] using hboth
    rw [turnOffGL_on hgl]
    simp [Stage.safe, hgh]

theorem turnOnGH_safe {st : Stage} (h : st.safe) : (turnOnGH st).safe := by
  obtain ⟨-, hgl, hguard, heq⟩ | heq := turnOnGH_cases st
  · rw [heq]
    simp [Stage.safe, hgl, hguard]
  · rwa [heq]

theorem turnOnGL_safe {st : Stage} (h : st.safe) : (turnOnGL st).safe := by
  obtain ⟨hgh, -, hguard, heq⟩ | heq := turnOnGL_cases st
  · rw [heq]
    simp [Stage.safe, hgh, hguard]
  · rwa [heq]

/-- R57: every move of a stage record keeps the dead-time law. -/
theorem StageMove.safe {e : LegEntry} {a b : Stage} (h : StageMove e a b) (ha : a.safe) :
    b.safe := by
  induction h with
  | refl => exact ha
  | trans _ _ ih ih' => exact ih' (ih ha)
  | enter => exact ha
  | unguard st =>
    obtain ⟨hboth, -, -⟩ := ha
    exact ⟨hboth, fun _ => rfl, fun _ => rfl⟩
  | offGH => exact turnOffGH_safe ha
  | offGL => exact turnOffGL_safe ha
  | onGH => exact turnOnGH_safe ha
  | onGL => exact turnOnGL_safe ha
  | bothOff st x => simp [Stage.safe]
  | wu => exact ha

/-! ### Moves of the stages of the part -/

/-- From `s` to `t` the board table stands, and each leg's stage record moves. -/
def StagesMove (s t : State) : Prop :=
  t.board = s.board ∧ ∀ l : Leg, StageMove (s.legEntry l) (s.stage l) (t.stage l)

theorem StagesMove.board {s t : State} (h : StagesMove s t) : t.board = s.board := h.1

theorem StagesMove.stage {s t : State} (h : StagesMove s t) (l : Leg) :
    StageMove (s.legEntry l) (s.stage l) (t.stage l) := h.2 l

theorem State.legEntry_of_board {s t : State} (h : t.board = s.board) (l : Leg) :
    t.legEntry l = s.legEntry l := congrArg (fun b => b.legs.get l) h

theorem StagesMove.of_stages {s t : State} (hboard : t.board = s.board)
    (hstages : t.stages = s.stages) : StagesMove s t := by
  refine ⟨hboard, fun l => ?_⟩
  rw [show t.stage l = s.stage l from congrArg (·.get l) hstages]
  exact .refl _

/-- Neither the Setup Controller nor a stage record is written. -/
theorem StagesMove.of_frame {s t : State} (hsetup : t.setup = s.setup)
    (hstages : t.stages = s.stages) : StagesMove s t :=
  .of_stages (congrArg Setup.board hsetup) hstages

theorem StagesMove.refl (s : State) : StagesMove s s := .of_stages rfl rfl

theorem StagesMove.trans {s t u : State} (h : StagesMove s t) (h' : StagesMove t u) :
    StagesMove s u :=
  ⟨h'.board.trans h.board,
    fun l => (h.stage l).trans (State.legEntry_of_board h.board l ▸ h'.stage l)⟩

/-- Stage records changed leg by leg. -/
theorem StagesMove.of_mapIdx {s t : State} {f : Leg → Stage → Stage} (hboard : t.board = s.board)
    (hstages : t.stages = s.stages.mapIdx f)
    (hf : ∀ l, StageMove (s.legEntry l) (s.stage l) (f l (s.stage l))) : StagesMove s t := by
  refine ⟨hboard, fun l => ?_⟩
  have heq : t.stage l = f l (s.stage l) := by
    rw [State.stage, hstages, Four.get_mapIdx]
    rfl
  exact heq ▸ hf l

theorem StagesMove.onStage (s : State) (l : Leg) {f : LegEntry → Bool → Stage → Stage}
    (hf : ∀ e held st, StageMove e st (f e held st)) : StagesMove s (s.onStage l f) := by
  refine ⟨rfl, fun k => ?_⟩
  unfold State.onStage
  rw [State.setStage_stage]
  split
  next h => exact h ▸ hf _ _ _
  next => exact .refl _

theorem StagesMove.onUnitStages (s : State) (u : UnitNo) {f : LegEntry → Bool → Stage → Stage}
    (hf : ∀ e held st, StageMove e st (f e held st)) : StagesMove s (s.onUnitStages u f) := by
  refine .of_mapIdx (s := s)
    (f := fun l st => if s.unitOf l = u then f (s.legEntry l) (s.unitHeld l) st else st)
    rfl rfl fun l => ?_
  split
  · exact hf _ _ _
  · exact .refl _

/-- A fold of operations that each move the stages. -/
theorem StagesMove.foldl {α : Type} {f : State → α → State} (hf : ∀ s x, StagesMove s (f s x))
    (xs : List α) (s : State) : StagesMove s (xs.foldl f s) := by
  induction xs generalizing s with
  | nil => exact .refl s
  | cons x xs ih => exact (hf s x).trans (ih _)

/-! ### The shared operations -/

theorem StagesMove.restoreAll (s : State) : StagesMove s s.restoreAll := by
  refine .of_mapIdx (s := s)
    (f := fun l st => if s.drivePermitted l then restStage (s.legEntry l) (s.unitHeld l) st else st)
    rfl rfl fun l => ?_
  split
  · exact restStage_move _ _ _
  · exact .refl _

theorem StagesMove.restoreUnit (s : State) (u : UnitNo) : StagesMove s (s.restoreUnit u) := by
  refine .of_mapIdx (s := s)
    (f := fun l st => if s.unitOf l = u ∧ s.drivePermitted l = true then
      restStage (s.legEntry l) (s.unitHeld l) st else st) rfl rfl fun l => ?_
  split
  · exact restStage_move _ _ _
  · exact .refl _

theorem StagesMove.grant (s : State) (u : UnitNo) (p : Port) (ms : Nat) :
    StagesMove s (s.grant u p ms) :=
  .restoreUnit (s.setUnit u ((s.unit u).grantTo p ms)) u

theorem StagesMove.endQuiet (s : State) (u : UnitNo) : StagesMove s (s.endQuiet u) := by
  unfold State.endQuiet
  split
  · exact .of_stages rfl rfl
  next w rest _ => exact .grant (s.setUnit u { s.unit u with wait := rest }) u w.port w.period

theorem StagesMove.endZeroQuiet (s : State) (u : UnitNo) : StagesMove s (s.endZeroQuiet u) := by
  unfold State.endZeroQuiet
  split
  · exact .endQuiet s u
  · exact .refl s

theorem legsAfterLease_move {s : State} {u : UnitNo} {tripped : Bool}
    {before : LegEntry → Stage → Stage} (hbefore : ∀ e st, StageMove e st (before e st))
    {t : State} (hboard : t.board = s.board)
    (hstages : t.stages = s.legsAfterLease u tripped before) : StagesMove s t := by
  refine .of_mapIdx hboard hstages fun l => ?_
  split
  · dsimp only
    have hforce := (hbefore (s.legEntry l) (s.stage l)).trans (forceStage_move _ _)
    split
    · exact hforce.trans (restStage_move _ _ _)
    · exact hforce
  · exact .refl _

theorem StagesMove.abort (s : State) (u : UnitNo) (n : Option Notice) :
    StagesMove s (s.abort u n) := by
  rw [State.abort_eq]
  exact legsAfterLease_move (fun _ st => .refl st) rfl rfl

theorem StagesMove.drainCheck (s : State) (u : UnitNo) : StagesMove s (s.drainCheck u) := by
  unfold State.drainCheck
  split
  · rw [State.drain_eq]
    exact legsAfterLease_move (fun _ st => .refl st) rfl rfl
  · exact .refl s

theorem StagesMove.forceUnit {s t : State} {u : UnitNo} (hboard : t.board = s.board)
    (hstages : t.stages =
      s.stages.mapIdx fun l st => if s.unitOf l = u then forceStage (s.legEntry l) st else st) :
    StagesMove s t := by
  refine .of_mapIdx hboard hstages fun l => ?_
  split
  · exact forceStage_move _ _
  · exact .refl _

theorem StagesMove.beginDrainCheck (s : State) (u : UnitNo) :
    StagesMove s (s.beginDrainCheck u) := by
  unfold State.beginDrainCheck
  split
  · rw [State.beginDrain_eq]
    exact .forceUnit (u := u) rfl rfl
  · exact .refl s

theorem StagesMove.strike (s : State) (u : UnitNo) (c : Cause) (leg : Option Leg) :
    StagesMove s (s.strike u c leg) := by
  rw [State.strike_eq]
  exact .forceUnit (u := u) rfl rfl

theorem StagesMove.endZeroQuiets (s : State) (us : List UnitNo) :
    StagesMove s (s.endZeroQuiets us) := .foldl endZeroQuiet us s

theorem StagesMove.drainChecks (s : State) : StagesMove s s.drainChecks :=
  (StagesMove.foldl beginDrainCheck four s).trans (.endZeroQuiets _ _)

theorem StagesMove.externalRequest (s : State) (u : UnitNo) :
    StagesMove s (s.externalRequest u) := by
  unfold State.externalRequest
  split
  · split
    · exact .of_stages rfl rfl
    · exact (StagesMove.strike s u _ _).trans (.beginDrainCheck _ u)
  · exact .refl s

theorem StagesMove.tripAll (s : State) : StagesMove s s.tripAll :=
  (StagesMove.foldl externalRequest four s).trans (.endZeroQuiets _ _)

theorem StagesMove.tripRequest (s : State) (u : UnitNo) (c : Cause) (leg : Option Leg) :
    StagesMove s (s.tripRequest u c leg) := by
  unfold State.tripRequest
  split
  · exact .of_stages rfl rfl
  · exact (StagesMove.strike s u c leg).trans (.drainCheck _ u)

theorem StagesMove.take (s : State) (l : Leg) : StagesMove s (s.take l) := by
  unfold State.take
  split
  · exact .refl s
  next g rest _ =>
    exact .onStage (s.setSeq l _) l fun e held st => takeStage_move e held _ st

theorem StagesMove.openGate (s : State) (l : Leg) : StagesMove s (s.openGate l) := by
  unfold State.openGate
  split
  · exact .refl s
  · exact .onStage (s.setSeq l _) l fun e held st => openStage_move e held _ st

theorem StagesMove.offerEdge (s : State) (l : Leg) : StagesMove s (s.offerEdge l) := by
  unfold State.offerEdge
  split
  · exact .refl s
  · split
    · split
      · exact .of_stages rfl rfl
      · exact .openGate s l
    all_goals exact .refl s

/-- R39: SEGMENT_DONE is sent for a segment that asks for it. -/
def State.tellDone (s : State) (l : Leg) (a : Active) : State :=
  if a.seg.notify then
    s.notifyOpt (s.legHolder l) (.segmentDone l a.seg.tag a.late a.completed)
  else s

/-- SEGMENT_DONE writes the port records alone. -/
theorem State.tellDone_eq (s : State) (l : Leg) (a : Active) :
    s.tellDone l a = { s with ports := (s.tellDone l a).ports } := by
  unfold State.tellDone
  split
  · rw [State.notifyOpt_eq]
  · rfl

theorem State.tellDone_seq (s : State) (l : Leg) (a : Active) (j : Leg) :
    (s.tellDone l a).seq j = s.seq j := by
  rw [State.tellDone_eq]
  rfl

/-- R39: a segment ends with another pending, which is taken. -/
theorem State.endSegment_cons (s : State) (l : Leg) (a : Active) (g : Segment)
    (rest : List Segment) (h : (s.seq l).queue = g :: rest) :
    s.endSegment l a =
      (((s.tellDone l a).setSeq l { s.seq l with active := none }).take l).queueLowCheck l
        (rest.length + 1) := by
  have hseq := s.tellDone_seq l a l
  unfold State.endSegment
  dsimp only
  split
  next hq =>
    have hnil : ((s.tellDone l a).seq l).queue = [] := hq
    rw [hseq, h] at hnil
    cases hnil
  next g' rest' hq =>
    have hcons : ((s.tellDone l a).seq l).queue = g' :: rest' := hq
    rw [hseq, h] at hcons
    cases hcons
    change (((s.tellDone l a).setSeq l { (s.tellDone l a).seq l with active := none }).take
      l).queueLowCheck l _ = _
    rw [hseq]
    rfl

/-- The sequencer of a leg that has gone IDLE with nothing pending (R39, R72). -/
def LegSeq.ended (q : LegSeq) : LegSeq :=
  { q with active := none, escalation := 0, cutSeen := false }

/-- R39, R45: a segment ends with nothing pending. -/
theorem State.endSegment_nil (s : State) (l : Leg) (a : Active) (h : (s.seq l).queue = []) :
    s.endSegment l a =
      ((((s.tellDone l a).setSeq l (s.seq l).ended).onStage l endStage).notifyOpt (s.legHolder l)
        (.legIdle l a.seg.tag)).drainCheck (s.unitOf l) := by
  have hseq := s.tellDone_seq l a l
  unfold State.endSegment
  dsimp only
  split
  next hq =>
    change ((((s.tellDone l a).setSeq l ((s.tellDone l a).seq l).ended).onStage l
      endStage).notifyOpt ((s.tellDone l a).setSeq l ((s.tellDone l a).seq l).ended |>.legHolder l)
        (.legIdle l a.seg.tag)).drainCheck ((s.tellDone l a).unitOf l) = _
    rw [hseq]
    have hholder : ((s.tellDone l a).setSeq l (s.seq l).ended).legHolder l = s.legHolder l := by
      rw [State.tellDone_eq]
      rfl
    have hunit : (s.tellDone l a).unitOf l = s.unitOf l := by
      rw [State.tellDone_eq]
      rfl
    rw [hholder, hunit]
  next g' rest' hq =>
    have hcons : ((s.tellDone l a).seq l).queue = g' :: rest' := hq
    rw [hseq, h] at hcons
    cases hcons

theorem StagesMove.endSegment (s : State) (l : Leg) (a : Active) :
    StagesMove s (s.endSegment l a) := by
  have hdone : StagesMove s (s.tellDone l a) := by
    rw [State.tellDone_eq]
    exact .of_stages rfl rfl
  refine hdone.trans ?_
  cases hq : (s.seq l).queue with
  | nil =>
    rw [State.endSegment_nil s l a hq]
    have hend := StagesMove.onStage ((s.tellDone l a).setSeq l (s.seq l).ended) l endStage_move
    refine StagesMove.trans hend (StagesMove.trans ?_ (.drainCheck _ _))
    exact .of_frame (by simp) (by simp)
  | cons g rest =>
    rw [State.endSegment_cons s l a g rest hq]
    have htake := StagesMove.take ((s.tellDone l a).setSeq l { s.seq l with active := none }) l
    exact StagesMove.trans htake (.of_frame (by simp) (by simp))

theorem StagesMove.endPeriod (s : State) (l : Leg) (a : Active) (y : Layout) :
    StagesMove s (s.endPeriod l a y) := by
  unfold State.endPeriod
  dsimp only
  generalize ({ a with completed := _ } : Active) = a'
  generalize ({ s.seq l with active := _, cutSeen := _, escalation := _ } : LegSeq) = q
  split
  · exact .endSegment (s.setSeq l q) l a'
  · exact .onStage (State.setSeq (s.setSeq l q) l _) l fun e held st =>
      beginPeriod_move e held _ st

theorem StagesMove.cycleCut (s : State) (n : SenseNo) (l : Leg) :
    StagesMove s (s.cycleCut n l) := by
  unfold State.cycleCut
  split
  · dsimp only
    have hcut : StagesMove s ((s.onStage l fun e _ st => cutStage e st).setSeq l
        (((s.onStage l fun e _ st => cutStage e st).seq l).cut n)) :=
      .onStage s l fun e _ st => cutStage_move e st
    split
    · exact hcut.trans (.tripRequest _ _ _ _)
    · exact hcut
  · exact .refl s

theorem StagesMove.activate (s : State) (n : SenseNo) : StagesMove s (s.activate n) := by
  unfold State.activate
  dsimp only
  split
  · exact .refl s
  · split
    · exact .of_frame (by simp) (by simp)
    · exact .refl s
  · exact .cycleCut s n _
  · exact .tripRequest s _ _ _

theorem StagesMove.sample (s : State) (n : SenseNo) (v : Level) : StagesMove s (s.sample n v) := by
  unfold State.sample
  dsimp only
  split
  · split
    · exact .activate (s.setSenseRec n _) n
    · exact .of_stages rfl rfl
  · exact .of_stages rfl rfl

theorem StagesMove.appendSegment (s : State) (l : Leg) (g : Segment) :
    StagesMove s (s.appendSegment l g) := by
  unfold State.appendSegment
  dsimp only
  split
  · exact .take (s.setSeq l _) l
  · exact .of_stages rfl rfl

theorem StagesMove.flushAll (s : State) (l : Leg) : StagesMove s (s.flushAll l) := by
  unfold State.flushAll
  dsimp only
  split
  · exact .onStage (s.setSeq l _) l stopStage_move
  · exact .of_stages rfl rfl

theorem StagesMove.finishLease (s : State) (u : UnitNo) : StagesMove s (s.finishLease u) :=
  (StagesMove.onUnitStages (s.setUnit u _) u idleStage_move).trans (.drainCheck _ u)

theorem StagesMove.clearTrip (s : State) (u : UnitNo) : StagesMove s (s.clearTrip u) :=
  .restoreUnit ((s.setTrip u .reset).resetEscalation u) u

theorem StagesMove.leaveGood (s : State) : StagesMove s s.leaveGood := by
  refine (StagesMove.of_mapIdx (f := fun l st => forceStage (s.legEntry l) st)
    (t := State.broadcast _ _) ?_ ?_ fun l => forceStage_move _ _).trans (.drainChecks _)
  · simp [State.board]
  · simp [State.legEntry]

theorem StagesMove.resetUnitFor (s : State) (p : Port) (u : UnitNo) :
    StagesMove s (s.resetUnitFor p u) := by
  obtain h | h | h := s.resetUnitFor_cases p u <;> rw [h]
  · exact .refl s
  · exact .of_stages rfl rfl
  · exact .abort (s.leaveWait u p) u none

theorem StagesMove.leftBy (s : State) (p : Port) : StagesMove s (s.leftBy p) := by
  refine (StagesMove.foldl (fun s u => resetUnitFor s p u) four s).trans ?_
  unfold State.leftBy
  generalize four.foldl (fun s u => s.resetUnitFor p u) s = s
  unfold State.dropLockOf
  split
  · exact .of_stages rfl rfl
  · exact .refl _

theorem Setup.tick_board (c : Setup) : c.tick.board = c.board := by
  unfold Setup.tick
  split <;> rfl

theorem State.ticked_board (s : State) : s.ticked.board = s.board := by
  simp [State.ticked, four, State.board, Setup.tick_board]

theorem State.ticked_stages (s : State) : s.ticked.stages = s.stages := by
  simp [State.ticked, four]

/-- What an act does to the stage records: it leaves them as they are, or it keeps the board table and
moves each by itself. -/
theorem Act.stages {s t : State} (h : Act s t) :
    (s.setup.phase = .setup ∧ t.stages = s.stages) ∨ StagesMove s t := by
  cases h
  case board p b hsetup hmap => exact .inl ⟨hsetup, rfl⟩
  case unitMap p m hsetup => exact .inl ⟨hsetup, rfl⟩
  all_goals right
  case rest => exact .refl s
  case sampleFaultN v => exact .of_stages rfl rfl
  case spell => exact .tripAll { s with faultN := .low }
  case clock t => exact .of_stages rfl rfl
  case edge t => exact .foldl StagesMove.offerEdge four (State.setTime _ _)
  case timestampStep => exact .of_stages rfl rfl
  case tick => exact .of_stages s.ticked_board s.ticked_stages
  case wu => exact .of_mapIdx (s := s) (f := fun _ st => wuStage st) rfl rfl fun _ => .wu _
  case supply v => exact .of_stages rfl rfl
  case leaveGood => exact .leaveGood s
  case enterGood =>
    have hrest := StagesMove.restoreAll (s.setSupplyRec { state := .good, timer := 0 })
    exact StagesMove.trans hrest (.of_frame (by simp [State.enterGood]) (by simp [State.enterGood]))
  case lock => exact .of_stages rfl rfl
  case unlock => exact .of_stages rfl rfl
  case commit =>
    unfold State.faultCheck
    split
    · exact .tripAll s.enterRun
    · exact .of_stages rfl rfl
  case leave p => exact .leftBy s p
  case claim u p ms _ => exact .grant s u p ms
  case joinWait => exact .of_stages rfl rfl
  case dropWaits => exact .of_stages rfl rfl
  case renew => exact .of_stages rfl rfl
  case finish u _ => exact .finishLease s u
  case abort u n => exact .abort s u n
  case endQuiet u _ => exact .endQuiet s u
  case append l g _ _ => exact .appendSegment s l g
  case flushPending l => exact .of_stages rfl rfl
  case flushAll l => exact .flushAll s l
  case clearTrip u _ => exact .clearTrip s u
  case openGate l => exact .openGate s l
  case endPeriod l a y _ _ _ => exact .endPeriod s l a y
  case wave l f hf => exact .onStage s l hf.move
  case sample n v => exact .sample s n v

/-! ### O53 -/

/-- The dead-time law is a law of each stage record by itself. -/
theorem deadTimeLaw_of_stages {s t : State} (h : ∀ l, (s.stage l).safe → (t.stage l).safe)
    (hs : s.deadTimeLaw) : t.deadTimeLaw := fun l => h l (hs l)

theorem Ported.stage {s t : State} (h : Ported s t) (l : Leg) : t.stage l = s.stage l := by
  rw [h.frame]
  rfl

theorem Act.keeps_deadTimeLaw {s t : State} (h : Act s t) (hs : s.deadTimeLaw) :
    t.deadTimeLaw := by
  refine deadTimeLaw_of_stages (fun l hl => ?_) hs
  obtain ⟨-, hstages⟩ | hmove := h.stages
  · rwa [show t.stage l = s.stage l from congrArg (·.get l) hstages]
  · exact (hmove.stage l).safe hl

theorem Row.keeps_deadTimeLaw {s t : State} (hs : s.deadTimeLaw) (h : Row s t) :
    t.deadTimeLaw := by
  obtain ⟨s₁, t₁, before, act, after⟩ := h
  have hs₁ : s₁.deadTimeLaw := fun l => before.stage l ▸ hs l
  exact fun l => after.stage l ▸ act.keeps_deadTimeLaw hs₁ l

/-- Settles O53: every row moves the stage records by turn-offs, by turn-ons of unguarded gates and by
forcings, and each of these keeps the dead-time law of the leg. -/
theorem everyStepKeepsTheDeadTimeLaw : Obligations.EveryStepKeepsTheDeadTimeLaw := by
  intro s t hs hstep
  have hreset : State.reset.deadTimeLaw := by decide
  exact step_keeps (fun _ _ h => h) (fun _ _ _ => hreset) (fun _ _ => Row.keeps_deadTimeLaw) hs
    hstep

end Sys2Proof.Machine
end

section
/-! PROOFS. What the events of several units come to, said once each as an equation for the whole
next state: a trip request (R98), the requests of a low FAULT_N spell (R102), the drains of a departure
from GOOD (R115) and PORT_RESET at the Lease Manager (R25). Each fold over the units is proved by
growing the set of units it has come to. -/

namespace Sys2Proof.Machine

/-! ### Equality of states, table by table -/

/-- Two states that differ in the records of ports, units, legs and trips alone, and in none of
these at any index, are equal. -/
theorem State.ext_tables {s t : State}
    (hframe : t = { s with
      ports := t.ports, units := t.units, seqs := t.seqs, stages := t.stages, trips := t.trips })
    (hports : ∀ k, t.port k = s.port k) (hunits : ∀ u, t.unit u = s.unit u)
    (hseqs : ∀ l, t.seq l = s.seq l) (hstages : ∀ l, t.stage l = s.stage l)
    (htrips : ∀ u, t.trip u = s.trip u) : t = s := by
  rw [hframe, Four.ext_get t.ports s.ports hports, Four.ext_get t.units s.units hunits,
    Four.ext_get t.seqs s.seqs hseqs, Four.ext_get t.stages s.stages hstages,
    Four.ext_get t.trips s.trips htrips]

/-- The same, for a state written out table by table. -/
theorem State.ext_get {s t : State}
    (hframe : t = { s with
      ports := t.ports, units := t.units, seqs := t.seqs, stages := t.stages, trips := t.trips })
    (hports : ∀ k, t.port k = s.ports.get k) (hunits : ∀ u, t.unit u = s.units.get u)
    (hseqs : ∀ l, t.seq l = s.seqs.get l) (hstages : ∀ l, t.stage l = s.stages.get l)
    (htrips : ∀ u, t.trip u = s.trips.get u) : t = s :=
  State.ext_tables hframe hports hunits hseqs hstages htrips

theorem Four.get_ite_set {α : Type} (t : Four α) (i j : Fin 4) (x : α) (c : Prop) [Decidable c] :
    (if c then t.set i x else t).get j = if j = i ∧ c then x else t.get j := by
  by_cases hc : c
  · simp [hc, Four.get_set]
  · simp [hc]

/-- A fold that brings `g us` to `g (us ++ [u])` for every new `u` of the list. -/
theorem foldl_grows {f : State → UnitNo → State} {g : List UnitNo → State} {vs : List UnitNo}
    (h : ∀ us u, u ∉ us → u ∈ vs → f (g us) u = g (us ++ [u])) (hnodup : vs.Nodup) :
    vs.foldl f (g []) = g vs := by
  suffices hgen : ∀ us ws, us ++ ws = vs → ws.foldl f (g us) = g (us ++ ws) from hgen [] vs rfl
  intro us ws hvs
  induction ws generalizing us with
  | nil => simp
  | cons w ws ih =>
    subst hvs
    have hw : w ∉ us := fun hmem =>
      (List.nodup_append.mp hnodup).2.2 w hmem w (List.mem_cons_self ..) rfl
    rw [List.foldl_cons, h us w hw (by simp), ih _ (by simp), List.append_assoc]
    rfl

theorem four_nodup : four.Nodup := by decide

/-- A fold over the four units. -/
theorem foldl_four {f : State → UnitNo → State} {g : List UnitNo → State}
    (h : ∀ us u, u ∉ us → f (g us) u = g (us ++ [u])) : four.foldl f (g []) = g four :=
  foldl_grows (fun us u hu _ => h us u hu) four_nodup

/-! ### Presence, counts, notices -/

/-- R1: the unit of a leg is present. -/
@[simp] theorem State.present_unitOf (s : State) (l : Leg) : s.present (s.unitOf l) = true :=
  List.any_eq_true.mpr ⟨l, Four.mem_four l, by simp [State.unitOf]⟩

theorem LegSeq.discards_eq (q : LegSeq) :
    q.discards = q.queue.length + if q.active = none then 0 else 1 := by
  unfold LegSeq.discards
  cases q.active <;> rfl

/-- R98: the count of a trip is the sum over the unit's legs. -/
theorem State.unitDiscards_eq (s : State) (u : UnitNo) :
    s.unitDiscards u = ((four.filter fun l => decide (s.unitOf l = u)).map fun l =>
      (s.seq l).queue.length + (if (s.seq l).active = none then 0 else 1)).sum := by
  have hfold : ∀ (ls : List Leg) (n : Nat),
      ls.foldl (fun n l => if s.unitOf l = u then n + (s.seq l).discards else n) n =
        n + ((ls.filter fun l => decide (s.unitOf l = u)).map fun l => (s.seq l).discards).sum := by
    intro ls
    induction ls with
    | nil => simp
    | cons l ls ih =>
      intro n
      by_cases h : s.unitOf l = u
      · simp [h, ih, Nat.add_assoc]
      · simp [h, ih]
  rw [State.unitDiscards, hfold, Nat.zero_add]
  simp only [LegSeq.discards_eq]

/-- The holder of a RELEASING unit is the releasing port (R5). -/
theorem UnitRec.holder_of_releasing {r : UnitRec} (h : r.lease = .releasing) :
    r.holder = r.releasing := by
  simp [UnitRec.holder, h]

theorem UnitRec.holder_of_held {r : UnitRec} (h : r.lease = .held) : r.holder = r.owner := by
  simp [UnitRec.holder, h]

/-- R48: a flush leaves the sequencer of a leg IDLE and empty. -/
theorem LegSeq.flushed_idleEmpty (q : LegSeq) : q.flushed.idleEmpty = true := rfl

/-! ### The quiet times of 0 that end together (R4, R27) -/

/-- The record of unit `u` that has been put in QUIET with its quiet timer loaded (R4, R20). -/
def State.quietRec (s : State) (u : UnitNo) : UnitRec :=
  { (s.unit u).toQuiet with quiet := (s.unitEntry u).quiet }

theorem State.quietRec_entersQuiet (s : State) (u : UnitNo) : (s.quietRec u).entersQuiet :=
  ⟨rfl, rfl, rfl, rfl, rfl, rfl⟩

/-- The units `us` have entered QUIET in this event. -/
def State.inQuiet (s : State) (us : List UnitNo) : Prop :=
  ∀ u ∈ us, (s.unit u).entersQuiet ∧ (s.unit u).quiet = (s.unitEntry u).quiet

/-- No leg of the units `us` can leave FORCED. -/
def State.noDrive (s : State) (us : List UnitNo) : Prop :=
  ∀ u ∈ us, s.tripped u = true ∨ s.supply.state ≠ .good

/-- `s` after the ends of the quiet times of 0 of the units `us` in QUIET, when no leg of them can
leave FORCED. -/
def State.quietEnded (s : State) (us : List UnitNo) : State :=
  { s with
    units := s.units.mapIdx fun u r => if u ∈ us then s.unitAfterLease u else r
    ports := s.told fun k => us.flatMap fun u => s.grantTold u (s.tripped u) k }

/-- R4: the end of a quiet time of 0 at a unit that has entered QUIET is that of the quiet interval's
start. -/
theorem State.endZeroQuiet_eq (s : State) (u : UnitNo) (hq : (s.unit u).entersQuiet)
    (hload : (s.unit u).quiet = (s.unitEntry u).quiet) :
    s.endZeroQuiet u =
      { s with
        units := s.units.set u (s.unitAfterLease u)
        stages := s.stages.mapIdx fun l st =>
          if s.unitOf l = u ∧ (s.unitAfterLease u).lease = .held ∧ s.tripped u = false ∧
              s.supply.state = .good ∧ s.setup.phase = .run then
            restStage (s.legEntry l) true st
          else st
        ports := s.told (s.grantTold u (s.tripped u)) } := by
  have hself : s.loadQuiet u = s := by
    rw [State.loadQuiet, ← hload]
    exact s.setUnit_unit_self u
  rw [← State.startQuiet_eq s u hq, State.startQuiet, hself]

/-- What a unit has after its lease reads the board table and the unit's wait list (R4, R6). -/
theorem State.unitAfterLease_congr {s t : State} {u : UnitNo}
    (hentry : t.unitEntry u = s.unitEntry u) (hwait : (t.unit u).wait = (s.unit u).wait) :
    t.unitAfterLease u = s.unitAfterLease u := by
  simp [State.unitAfterLease, hentry, hwait]

theorem State.grantTold_congr {s t : State} {u : UnitNo} (tripped : Bool)
    (hentry : t.unitEntry u = s.unitEntry u) (hwait : (t.unit u).wait = (s.unit u).wait) :
    t.grantTold u tripped = s.grantTold u tripped := by
  simp [State.grantTold, hentry, hwait]

theorem State.quietEnded_unit (s : State) (us : List UnitNo) (v : UnitNo) :
    (s.quietEnded us).unit v = if v ∈ us then s.unitAfterLease v else s.unit v := by
  simp [State.quietEnded, State.unit]

/-- R4, R27: the quiet times of 0 of several units end, one after the other. -/
theorem State.endZeroQuiets_eq (s : State) {us : List UnitNo} (hnodup : us.Nodup)
    (hquiet : s.inQuiet us) (hdrive : s.noDrive us) :
    s.endZeroQuiets us = s.quietEnded us := by
  have hnil : s.quietEnded [] = s := by
    simp [State.quietEnded, Four.mapIdx_id]
  conv_lhs => rw [← hnil]
  refine foldl_grows (fun vs u hu hmem => ?_) hnodup
  obtain ⟨henters, hload⟩ := hquiet u hmem
  have hunit : (s.quietEnded vs).unit u = s.unit u := by rw [s.quietEnded_unit, if_neg hu]
  have hafter : (s.quietEnded vs).unitAfterLease u = s.unitAfterLease u :=
    State.unitAfterLease_congr rfl (by rw [hunit])
  have hgrant : (s.quietEnded vs).grantTold u (s.tripped u) = s.grantTold u (s.tripped u) :=
    State.grantTold_congr _ rfl (by rw [hunit])
  rw [State.endZeroQuiet_eq _ u (hunit ▸ henters) (hunit ▸ hload), hafter]
  refine State.ext_tables rfl (fun k => ?_) (fun v => ?_) (fun l => rfl) (fun l => ?_)
    (fun v => rfl)
  · change ((s.quietEnded vs).told ((s.quietEnded vs).grantTold u (s.tripped u))).get k = _
    rw [hgrant, State.told_told s (s.quietEnded vs)
      (fun k => vs.flatMap fun u => s.grantTold u (s.tripped u) k) _ rfl rfl]
    simp [State.quietEnded, State.port]
  · rw [s.quietEnded_unit]
    by_cases hv : v = u
    · subst hv
      simp [State.unit]
    · change ((s.quietEnded vs).units.set u _).get v = _
      rw [Four.get_set_ne _ _ _ _ hv, ← State.unit, s.quietEnded_unit]
      simp [hv]
  · have hoff : ¬ (s.unitOf l = u ∧ (s.unitAfterLease u).lease = .held ∧ s.tripped u = false ∧
        s.supply.state = .good ∧ s.setup.phase = .run) := by
      rintro ⟨-, -, hnormal, hgood, -⟩
      obtain htripped | hsupply := hdrive u hmem
      · rw [hnormal] at htripped
        cases htripped
      · exact hsupply hgood
    refine (Four.get_mapIdx ..).trans (if_neg hoff)

/-! ### Trips (R98 to R102) -/

/-- The trip record of unit `u` as a trip of cause `c` at `leg` records it (R98). -/
def State.tripEntry (s : State) (u : UnitNo) (c : Cause) (leg : Option Leg) : TripRec :=
  { info := some
      { cause := c, leg := leg, stamp := s.time.stamp
        tag := leg.bind fun l => (s.seq l).activeTag
        owner := (s.unit u).holder, discarded := s.unitDiscards u }
    laterSenses := 0, laterExternal := false }

/-- The notices of a trip, up to the end of a quiet time of 0 (R20, R99). -/
def State.tripTold (s : State) (u : UnitNo) (c : Cause) (leg : Option Leg) : Port → List Notice :=
  fun k =>
    toBoth (s.unit u).holder s.board.supervisor
        (.tripped u c leg (leg.bind fun l => (s.seq l).activeTag) (s.unitDiscards u)) k ++
      if (s.unit u).lease = .releasing then toPort (s.unit u).holder [.releaseDone u] k else []

theorem State.tripTold_other (c : Cause) (leg : Option Leg) {s : State} {u : UnitNo}
    (h : (s.unit u).lease ≠ .releasing) :
    s.tripTold u c leg = toBoth (s.unit u).holder s.board.supervisor
      (.tripped u c leg (leg.bind fun l => (s.seq l).activeTag) (s.unitDiscards u)) := by
  funext k
  simp [State.tripTold, h]

theorem State.tripTold_releasing (c : Cause) (leg : Option Leg) {s : State} {u : UnitNo}
    (h : (s.unit u).lease = .releasing) :
    s.tripTold u c leg = fun k => toBoth (s.unit u).holder s.board.supervisor
      (.tripped u c leg (leg.bind fun l => (s.seq l).activeTag) (s.unitDiscards u)) k ++
        toPort (s.unit u).holder [.releaseDone u] k := by
  funext k
  simp [State.tripTold, h]

/-- Every leg of a unit that has been struck is IDLE and empty. -/
theorem State.strike_unitDrained (s : State) (u : UnitNo) (c : Cause) (leg : Option Leg) :
    (s.strike u c leg).unitDrained u = true := by
  rw [State.unitDrained_iff, State.strike_eq]
  intro l hl
  have hl' : s.unitOf l = u := hl
  simp [State.seq, State.seqsFlushed, hl', LegSeq.flushed_idleEmpty]

/-- R98, R102: a trip, up to the start of the quiet timer of a unit that it drains. -/
theorem State.strike_beginDrainCheck (s : State) (u : UnitNo) (c : Cause) (leg : Option Leg) :
    (s.strike u c leg).beginDrainCheck u =
      { s with
        trips := s.trips.set u (s.tripEntry u c leg)
        seqs := s.seqsFlushed u
        stages := s.stages.mapIdx fun l st =>
          if s.unitOf l = u then forceStage (s.legEntry l) st else st
        units := if (s.unit u).lease = .releasing then s.units.set u (s.quietRec u) else s.units
        ports := s.told (s.tripTold u c leg) } := by
  have hdrained := s.strike_unitDrained u c leg
  unfold State.beginDrainCheck State.drainDue
  rw [hdrained, State.strike_eq]
  by_cases hrel : (s.unit u).lease = .releasing
  · rw [if_pos (decide_eq_true ⟨hrel, rfl⟩), State.beginDrain_eq]
    refine State.ext_tables rfl (fun k => ?_) (fun v => ?_) (fun l => rfl) (fun l => ?_)
      (fun v => rfl)
    · simp [State.port, State.told, hrel, State.tripTold, PortRec.offerAll_append]
      rfl
    · simp only [hrel, if_true]
      rfl
    · by_cases hl : s.unitOf l = u
      · have hl' : s.setup.board.unitMap.get l = u := hl
        simp [State.stage, State.unitOf, State.legEntry, hl']
      · have hl' : ¬ s.setup.board.unitMap.get l = u := hl
        simp [State.stage, State.unitOf, State.legEntry, hl']
  · rw [if_neg fun h => hrel (of_decide_eq_true h).1]
    refine State.ext_tables rfl (fun k => ?_) (fun v => ?_) (fun l => rfl) (fun l => rfl)
      (fun v => rfl)
    · simp [State.port, hrel, State.tripTold]
    · simp only [hrel, if_false]
      rfl

theorem State.strike_unit (s : State) (u : UnitNo) (c : Cause) (leg : Option Leg) (v : UnitNo) :
    (s.strike u c leg).unit v = s.unit v := by
  simp [State.unit]

/-- The trip of a unit that is not RELEASING (R98). -/
theorem State.takeTrip_other (s : State) (u : UnitNo) (c : Cause) (leg : Option Leg)
    (h : (s.unit u).lease ≠ .releasing) :
    s.takeTrip u c leg =
      { s with
        trips := s.trips.set u (s.tripEntry u c leg)
        seqs := s.seqsFlushed u
        stages := s.stages.mapIdx fun l st =>
          if s.unitOf l = u then forceStage (s.legEntry l) st else st
        ports := s.told (s.tripTold u c leg) } := by
  rw [State.takeTrip, State.drainCheck_other _ _ (.inl (by rwa [State.strike_unit])),
    State.strike_eq]
  rw [State.tripTold_other _ _ h]
  rfl

/-- The trip of a RELEASING unit, which drains (R20, R98). -/
theorem State.takeTrip_releasing (s : State) (u : UnitNo) (c : Cause) (leg : Option Leg)
    (h : (s.unit u).lease = .releasing) :
    s.takeTrip u c leg =
      { s with
        trips := s.trips.set u (s.tripEntry u c leg)
        seqs := s.seqsFlushed u
        units := s.units.set u (s.unitAfterLease u)
        stages := s.legsAfterLease u true fun e st => forceStage e st
        ports := s.told fun k => s.tripTold u c leg k ++ s.grantTold u true k } := by
  have hdue : (s.strike u c leg).drainDue u = true :=
    decide_eq_true ⟨by rwa [State.strike_unit], s.strike_unitDrained u c leg⟩
  have hsplit : s.takeTrip u c leg = ((s.strike u c leg).beginDrainCheck u).endZeroQuiet u := by
    simp only [State.takeTrip, State.drainCheck, State.beginDrainCheck, hdue, if_true, State.drain]
  rw [hsplit, State.strike_beginDrainCheck]
  simp only [h, if_true]
  generalize ht : ({ s with
    trips := s.trips.set u (s.tripEntry u c leg), seqs := s.seqsFlushed u
    stages := s.stages.mapIdx fun l st =>
      if s.unitOf l = u then forceStage (s.legEntry l) st else st
    units := s.units.set u (s.quietRec u), ports := s.told (s.tripTold u c leg) } : State) = t
  have hunit : t.unit u = s.quietRec u := by
    subst ht
    exact Four.get_set_same ..
  have htripped : t.tripped u = true := by
    subst ht
    simp [State.tripped, State.trip, TripRec.tripped, State.tripEntry]
  have hwait : (t.unit u).wait = (s.unit u).wait := by rw [hunit]; rfl
  have hentry : t.unitEntry u = s.unitEntry u := by subst ht; rfl
  rw [State.endZeroQuiet_eq t u (hunit ▸ s.quietRec_entersQuiet u)
      (by rw [hunit, hentry]; rfl), State.unitAfterLease_congr hentry hwait, htripped,
    State.grantTold_congr true hentry hwait,
    State.told_told s t (s.tripTold u c leg) _ (by subst ht; rfl) (by subst ht; rfl)]
  subst ht
  refine State.ext_tables rfl (fun k => rfl) (fun v => ?_) (fun l => rfl) (fun l => ?_)
    (fun v => rfl)
  · simp [State.unit]
  · by_cases hl : s.unitOf l = u
    · simp [State.stage, State.legsAfterLease, hl]
    · simp [State.stage, State.legsAfterLease, hl]

theorem TripRec.tripped_eq_false {t : TripRec} : t.tripped = false ↔ t.info = none := by
  unfold TripRec.tripped
  cases t.info <;> simp

theorem State.tripped_eq_false {s : State} {u : UnitNo} :
    s.tripped u = false ↔ (s.trip u).info = none := TripRec.tripped_eq_false

theorem State.tripped_eq_true {s : State} {u : UnitNo} :
    s.tripped u = true ↔ (s.trip u).info ≠ none := by
  rw [← Bool.not_eq_false, State.tripped_eq_false]

/-- Settles O46: a NORMAL unit is struck, and drains if it is RELEASING; a TRIPPED one records the
cause. -/
theorem aTripRequestTripsOrIsRecorded : Obligations.ATripRequestTripsOrIsRecorded := by
  intro s u c leg
  dsimp only
  refine ⟨fun hnormal hlease => ?_, fun hnormal hlease => ?_, fun info hinfo => ⟨?_, ?_⟩⟩
  · rw [State.tripRequest_normal _ _ _ _ (State.tripped_eq_false.mpr hnormal),
      State.takeTrip_other _ _ _ _ hlease]
    rw [State.tripTold_other _ _ hlease]
    simp only [State.tripEntry, State.unitDiscards_eq]
    rfl
  · rw [State.tripRequest_normal _ _ _ _ (State.tripped_eq_false.mpr hnormal),
      State.takeTrip_releasing _ _ _ _ hlease]
    rw [State.tripTold_releasing _ _ hlease]
    simp only [State.tripEntry, State.unitDiscards_eq]
    rfl
  · rintro n rfl
    rw [State.tripRequest_tripped _ _ _ _ (State.tripped_eq_true.mpr (by simp [hinfo]))]
    rfl
  · rintro rfl
    rw [State.tripRequest_tripped _ _ _ _ (State.tripped_eq_true.mpr (by simp [hinfo]))]
    rfl

/-! ### A low spell of FAULT_N (R102, R103) -/

/-- R102: an EXTERNAL request trips unit `u`. -/
def State.strikes (s : State) (u : UnitNo) : Prop :=
  s.present u = true ∧ (s.trip u).info = none

/-- `s` after the EXTERNAL requests for the units `us`, up to the ends of quiet times of 0. -/
def State.requested (s : State) (us : List UnitNo) : State :=
  { s with
    trips := s.trips.mapIdx fun u r =>
      if u ∈ us ∧ s.present u = true then
        if r.info = none then s.tripEntry u .external none else { r with laterExternal := true }
      else r
    seqs := s.seqs.mapIdx fun l q =>
      if s.unitOf l ∈ us ∧ (s.trip (s.unitOf l)).info = none then q.flushed else q
    stages := s.stages.mapIdx fun l st =>
      if s.unitOf l ∈ us ∧ (s.trip (s.unitOf l)).info = none then
        forceStage (s.legEntry l) st
      else st
    units := s.units.mapIdx fun u r =>
      if u ∈ us ∧ s.present u = true ∧ (s.trip u).info = none ∧ r.lease = .releasing then
        s.quietRec u
      else r
    ports := s.told fun k =>
      (us.filter fun u => s.present u && (s.trip u).info.isNone).flatMap fun u =>
        s.tripTold u .external none k }

theorem State.requested_trip (s : State) (us : List UnitNo) (v : UnitNo) :
    (s.requested us).trip v =
      if v ∈ us ∧ s.present v = true then
        if (s.trip v).info = none then s.tripEntry v .external none
        else { s.trip v with laterExternal := true }
      else s.trip v := Four.get_mapIdx ..

theorem State.requested_unit (s : State) (us : List UnitNo) (v : UnitNo) :
    (s.requested us).unit v =
      if v ∈ us ∧ s.present v = true ∧ (s.trip v).info = none ∧ (s.unit v).lease = .releasing then
        s.quietRec v
      else s.unit v := Four.get_mapIdx ..

theorem State.requested_seq (s : State) (us : List UnitNo) (l : Leg) :
    (s.requested us).seq l =
      if s.unitOf l ∈ us ∧ (s.trip (s.unitOf l)).info = none then (s.seq l).flushed
      else s.seq l := Four.get_mapIdx ..

theorem State.requested_stage (s : State) (us : List UnitNo) (l : Leg) :
    (s.requested us).stage l =
      if s.unitOf l ∈ us ∧ (s.trip (s.unitOf l)).info = none then
        forceStage (s.legEntry l) (s.stage l)
      else s.stage l := Four.get_mapIdx ..

theorem State.requested_port (s : State) (us : List UnitNo) (k : Port) :
    (s.requested us).port k =
      (s.port k).offerAll
        ((us.filter fun u => s.present u && (s.trip u).info.isNone).flatMap fun u =>
          s.tripTold u .external none k) s.time.stamp := State.told_get ..

/-- R98: the discarded count of a unit whose legs no request has come to yet. -/
theorem State.requested_unitDiscards (s : State) {us : List UnitNo} {u : UnitNo} (hu : u ∉ us) :
    (s.requested us).unitDiscards u = s.unitDiscards u := by
  have hseq : ∀ l, s.unitOf l = u → (s.requested us).seq l = s.seq l := by
    intro l hl
    rw [s.requested_seq, if_neg (by simp [hl, hu])]
  unfold State.unitDiscards
  congr 1
  funext n l
  by_cases hl : s.unitOf l = u
  · simp only [show (s.requested us).unitOf l = u from hl, hl, if_true, hseq l hl]
  · simp only [show ¬ (s.requested us).unitOf l = u from hl, hl, if_false]

/-- R102: one more request. -/
theorem State.requested_externalRequest (s : State) {us : List UnitNo} {u : UnitNo}
    (hu : u ∉ us) : (s.requested us).externalRequest u = s.requested (us ++ [u]) := by
  have htrip : (s.requested us).trip u = s.trip u := by
    rw [s.requested_trip, if_neg fun h => hu h.1]
  have hunit : (s.requested us).unit u = s.unit u := by
    rw [s.requested_unit, if_neg fun h => hu h.1]
  have hpresent : (s.requested us).present u = s.present u := rfl
  unfold State.externalRequest
  rw [hpresent]
  by_cases hp : s.present u = true
  · rw [if_pos hp]
    by_cases ht : (s.trip u).info = none
    · rw [if_neg (by simp [State.tripped_eq_true, htrip, ht]), State.strike_beginDrainCheck]
      have hentry : (s.requested us).tripEntry u .external none = s.tripEntry u .external none := by
        simp only [State.tripEntry, s.requested_unitDiscards hu, hunit]
        rfl
      have htold : (s.requested us).tripTold u .external none = s.tripTold u .external none := by
        funext k
        simp only [State.tripTold, s.requested_unitDiscards hu, hunit]
        rfl
      have hquiet : (s.requested us).quietRec u = s.quietRec u := by
        simp only [State.quietRec, hunit]
        rfl
      rw [hentry, htold, hquiet, hunit]
      refine State.ext_tables rfl (fun k => ?_) (fun v => ?_) (fun l => ?_) (fun l => ?_)
        (fun v => ?_)
      · rw [s.requested_port]
        change ((s.requested us).told _).get k = _
        rw [State.told_get, s.requested_port]
        simp [hp, ht, PortRec.offerAll_append]
        rfl
      · rw [s.requested_unit]
        change (if _ then Four.set .. else _).get v = _
        rw [Four.get_ite_set, ← State.unit, s.requested_unit]
        by_cases hv : v = u
        · subst hv
          simp [hp, ht, hu]
        · simp [hv]
      · rw [s.requested_seq]
        change (Four.mapIdx ..).get l = _
        rw [Four.get_mapIdx, ← State.seq, s.requested_seq]
        change (if s.unitOf l = u then _ else _) = _
        by_cases hl : s.unitOf l = u
        · simp [hl, ht, hu]
        · simp [hl]
      · rw [s.requested_stage]
        change (Four.mapIdx ..).get l = _
        rw [Four.get_mapIdx, ← State.stage, s.requested_stage]
        change (if s.unitOf l = u then _ else _) = _
        by_cases hl : s.unitOf l = u
        · simp [hl, ht, hu]
          rfl
        · simp [hl]
      · rw [s.requested_trip]
        change (Four.set ..).get v = _
        by_cases hv : v = u
        · subst hv
          simp [hp, ht]
        · rw [Four.get_set_ne _ _ _ _ hv, ← State.trip, s.requested_trip]
          simp [hv]
    · rw [if_pos (State.tripped_eq_true.mpr (by rwa [htrip])), htrip]
      refine State.ext_tables rfl (fun k => ?_) (fun v => ?_) (fun l => ?_) (fun l => ?_)
        (fun v => ?_)
      · rw [State.setTrip_port, s.requested_port, s.requested_port]
        simp [ht]
      · rw [State.setTrip_unit, s.requested_unit, s.requested_unit]
        by_cases hv : v = u
        · subst hv
          simp [ht]
        · simp [hv]
      · rw [State.setTrip_seq, s.requested_seq, s.requested_seq]
        by_cases hl : s.unitOf l = u
        · simp [hl, ht]
        · simp [hl]
      · rw [State.setTrip_stage, s.requested_stage, s.requested_stage]
        by_cases hl : s.unitOf l = u
        · simp [hl, ht]
        · simp [hl]
      · rw [State.setTrip_trip, s.requested_trip, s.requested_trip]
        by_cases hv : v = u
        · subst hv
          simp [hp, ht, TripRec.addLater]
        · simp [hv]
  · rw [if_neg hp]
    have hleg : ∀ l, s.unitOf l ≠ u := by
      rintro l rfl
      exact hp (s.present_unitOf l)
    refine State.ext_tables rfl (fun k => ?_) (fun v => ?_) (fun l => ?_) (fun l => ?_)
      (fun v => ?_)
    · rw [s.requested_port, s.requested_port]
      simp [hp]
    · rw [s.requested_unit, s.requested_unit]
      by_cases hv : v = u
      · subst hv
        simp [hp]
      · simp [hv]
    · rw [s.requested_seq, s.requested_seq]
      simp [hleg l]
    · rw [s.requested_stage, s.requested_stage]
      simp [hleg l]
    · rw [s.requested_trip, s.requested_trip]
      by_cases hv : v = u
      · subst hv
        simp [hp]
      · simp [hv]

theorem State.requested_nil (s : State) : s.requested [] = s := by
  simp [State.requested, Four.mapIdx_id]

theorem State.requested_wait (s : State) (us : List UnitNo) (v : UnitNo) :
    ((s.requested us).unit v).wait = (s.unit v).wait := by
  rw [s.requested_unit]
  split <;> rfl

theorem State.mem_externalDrains {s : State} {u : UnitNo} :
    u ∈ four.filter s.externalDrains ↔
      s.present u = true ∧ (s.trip u).info = none ∧ (s.unit u).lease = .releasing := by
  simp [State.externalDrains, Four.mem_four, State.tripped_eq_false, and_assoc]

/-- R102: the requests of a spell for the four units. -/
theorem State.externalRequests_eq (s : State) :
    four.foldl (fun s u => s.externalRequest u) s = s.requested four := by
  conv_lhs => rw [← s.requested_nil]
  exact foldl_four fun us u hu => s.requested_externalRequest hu

/-- R20: the units that the requests of a spell drain are in QUIET. -/
theorem State.requested_inQuiet (s : State) :
    (s.requested four).inQuiet (four.filter s.externalDrains) := fun u hu => by
  obtain ⟨hp, ht, hrel⟩ := State.mem_externalDrains.mp hu
  have hunit : (s.requested four).unit u = s.quietRec u := by
    rw [s.requested_unit, if_pos ⟨Four.mem_four u, hp, ht, hrel⟩]
  rw [hunit]
  exact ⟨s.quietRec_entersQuiet u, rfl⟩

/-- R27, R102, R103: the requests of a spell, then the quiet times of 0 of the units they drain. -/
theorem State.tripAll_eq (s : State) :
    s.tripAll = (s.requested four).quietEnded (four.filter s.externalDrains) := by
  rw [State.tripAll, State.externalRequests_eq]
  refine State.endZeroQuiets_eq _ (four_nodup.filter _) s.requested_inQuiet
    (fun u hu => .inl ?_)
  obtain ⟨hp, ht, -⟩ := State.mem_externalDrains.mp hu
  rw [State.tripped, s.requested_trip, if_pos ⟨Four.mem_four u, hp⟩, if_pos ht]
  rfl

theorem State.tripAll_unit (s : State) (v : UnitNo) :
    s.tripAll.unit v =
      if s.present v = true ∧ (s.trip v).info = none ∧ (s.unit v).lease = .releasing then
        s.unitAfterLease v
      else s.unit v := by
  rw [State.tripAll_eq, State.quietEnded_unit]
  simp only [State.mem_externalDrains]
  split
  · exact State.unitAfterLease_congr rfl (s.requested_wait _ _)
  next h => rw [s.requested_unit, if_neg fun h' => h h'.2]

theorem State.tripAll_trip (s : State) (v : UnitNo) :
    s.tripAll.trip v =
      if s.present v = true then
        if (s.trip v).info = none then s.tripEntry v .external none
        else { s.trip v with laterExternal := true }
      else s.trip v := by
  rw [State.tripAll_eq]
  exact (s.requested_trip four v).trans (by simp [Four.mem_four])

theorem State.tripAll_seq (s : State) (l : Leg) :
    s.tripAll.seq l =
      if (s.trip (s.unitOf l)).info = none then (s.seq l).flushed else s.seq l := by
  rw [State.tripAll_eq]
  exact (s.requested_seq four l).trans (by simp [Four.mem_four])

theorem State.tripAll_stage (s : State) (l : Leg) :
    s.tripAll.stage l =
      if (s.trip (s.unitOf l)).info = none then forceStage (s.legEntry l) (s.stage l)
      else s.stage l := by
  rw [State.tripAll_eq]
  exact (s.requested_stage four l).trans (by simp [Four.mem_four])

/-- The notices of a spell for port `k` (R27, R99). -/
def State.spellTold (s : State) (k : Port) : List Notice :=
  ((four.filter fun u => s.present u && (s.trip u).info.isNone).flatMap fun u =>
      s.tripTold u .external none k) ++
    (four.filter s.externalDrains).flatMap fun u => s.grantTold u true k

theorem State.tripAll_port (s : State) (k : Port) :
    s.tripAll.port k = (s.port k).offerAll (s.spellTold k) s.time.stamp := by
  rw [State.tripAll_eq]
  refine (State.told_get ..).trans ?_
  rw [s.requested_port, State.spellTold, PortRec.offerAll_append]
  have hgrants : ((four.filter s.externalDrains).flatMap fun u =>
      (s.requested four).grantTold u ((s.requested four).tripped u) k) =
      (four.filter s.externalDrains).flatMap fun u => s.grantTold u true k := by
    simp only [List.flatMap]
    congr 1
    refine List.map_congr_left fun u hu => ?_
    obtain ⟨hp, ht, -⟩ := State.mem_externalDrains.mp hu
    have htripped : (s.requested four).tripped u = true := by
      rw [State.tripped, s.requested_trip, if_pos ⟨Four.mem_four u, hp⟩, if_pos ht]
      rfl
    rw [htripped]
    exact congrFun
      (State.grantTold_congr (s := s) (t := s.requested four) (u := u) true rfl
        (s.requested_wait _ _)) k
  rw [hgrants]
  rfl

/-- The level of FAULT_N is not read by a spell's requests. -/
theorem State.spellTold_faultN (s : State) (v : Level) (k : Port) :
    ({ s with faultN := v } : State).spellTold k = s.spellTold k := by
  have hgrant (u : UnitNo) : ({ s with faultN := v } : State).grantTold u true k =
      s.grantTold u true k :=
    congrFun (State.grantTold_congr (s := s) (t := { s with faultN := v }) (u := u) true rfl rfl) k
  simp only [State.spellTold, hgrant]
  rfl

/-- The notices of a spell, as R27 and R99 give them. -/
theorem State.spellTold_eq (s : State) (k : Port) :
    s.spellTold k =
      ((four.filter fun u => s.present u && (s.trip u).info.isNone).flatMap fun u =>
        toBoth (s.unit u).holder s.board.supervisor
            (.tripped u .external none none (s.unitDiscards u)) k ++
          (if (s.unit u).lease = .releasing then
            toPort (s.unit u).releasing [.releaseDone u] k
          else [])) ++
        (four.filter fun u => s.present u && (s.trip u).info.isNone &&
          decide ((s.unit u).lease = .releasing)).flatMap fun u => s.grantTold u true k := by
  have htold (u : UnitNo) : s.tripTold u .external none k =
      toBoth (s.unit u).holder s.board.supervisor
          (.tripped u .external none none (s.unitDiscards u)) k ++
        (if (s.unit u).lease = .releasing then
          toPort (s.unit u).releasing [.releaseDone u] k
        else []) := by
    unfold State.tripTold
    congr 1
    split
    next hrel => rw [UnitRec.holder_of_releasing hrel]
    next => rfl
  have hdrains : s.externalDrains = fun u => s.present u && (s.trip u).info.isNone &&
      decide ((s.unit u).lease = .releasing) := by
    funext u
    simp [State.externalDrains, State.tripped, TripRec.tripped]
  simp only [State.spellTold, htold, hdrains]

/-- Settles O47: a spell is the fold of its requests, and every other sample writes the level alone. -/
theorem faultNTripsEveryPresentUnit : Obligations.FaultNTripsEveryPresentUnit := by
  intro s
  dsimp only
  refine ⟨fun hhigh hrun => ?spell, fun hhigh hsetup => ?setup, fun hlow => ?within, rfl⟩
  case setup =>
    change Host.Outcome.next (if s.faultN = .high then _ else _) = _
    rw [if_pos hhigh]
    change Host.Outcome.next (if s.setup.phase = .run then _ else _) = _
    rw [if_neg (by simp [hsetup])]
  case within =>
    change Host.Outcome.next (if s.faultN = .high then _ else _) = _
    rw [if_neg (by simp [hlow])]
  case spell =>
    have hexec : exec .faultNLowSpell s = .next ({ s with faultN := .low } : State).tripAll := by
      change Host.Outcome.next (if s.faultN = .high then _ else _) = _
      rw [if_pos hhigh]
      change Host.Outcome.next (if s.setup.phase = .run then _ else _) = _
      rw [if_pos hrun]
    have hafter (v : UnitNo) : ({ s with faultN := .low } : State).unitAfterLease v =
        s.unitAfterLease v := State.unitAfterLease_congr rfl rfl
    simp only [← State.unitDiscards_eq]
    refine hexec.trans (congrArg Host.Outcome.next ?_)
    refine State.ext_get (State.tripAll_eq _ ▸ rfl) (fun k => ?_) (fun v => ?_) (fun l => ?_)
      (fun l => ?_) (fun v => ?_)
    · rw [State.tripAll_port, State.spellTold_faultN, State.spellTold_eq]
      rw [State.told_get]
      rfl
    · rw [State.tripAll_unit, hafter]
      rw [Four.get_mapIdx]
      rfl
    · rw [State.tripAll_seq]
      rw [Four.get_mapIdx]
      rfl
    · rw [State.tripAll_stage]
      rw [Four.get_mapIdx]
      rfl
    · rw [State.tripAll_trip]
      rw [Four.get_mapIdx]
      change (if s.present v = true then _ else _) = if s.present v = false then _ else _
      cases s.present v <;> rfl

/-! ### The departure from GOOD (R115) -/

/-- `s` after the drain checks of the units `us`, up to the ends of quiet times of 0. -/
def State.drainBegun (s : State) (us : List UnitNo) : State :=
  { s with
    units := s.units.mapIdx fun u r => if u ∈ us ∧ s.drainDue u = true then s.quietRec u else r
    stages := s.stages.mapIdx fun l st =>
      if s.unitOf l ∈ us ∧ s.drainDue (s.unitOf l) = true then forceStage (s.legEntry l) st else st
    ports := s.told fun k =>
      (us.filter s.drainDue).flatMap fun u => toPort (s.unit u).holder [.releaseDone u] k }

theorem State.drainBegun_unit (s : State) (us : List UnitNo) (v : UnitNo) :
    (s.drainBegun us).unit v =
      if v ∈ us ∧ s.drainDue v = true then s.quietRec v else s.unit v := Four.get_mapIdx ..

theorem State.drainBegun_stage (s : State) (us : List UnitNo) (l : Leg) :
    (s.drainBegun us).stage l =
      if s.unitOf l ∈ us ∧ s.drainDue (s.unitOf l) = true then
        forceStage (s.legEntry l) (s.stage l)
      else s.stage l := Four.get_mapIdx ..

theorem State.drainBegun_port (s : State) (us : List UnitNo) (k : Port) :
    (s.drainBegun us).port k =
      (s.port k).offerAll
        ((us.filter s.drainDue).flatMap fun u => toPort (s.unit u).holder [.releaseDone u] k)
        s.time.stamp := State.told_get ..

/-- R20: one more drain check. -/
theorem State.drainBegun_beginDrainCheck (s : State) {us : List UnitNo} {u : UnitNo}
    (hu : u ∉ us) : (s.drainBegun us).beginDrainCheck u = s.drainBegun (us ++ [u]) := by
  have hunit : (s.drainBegun us).unit u = s.unit u := by
    rw [s.drainBegun_unit, if_neg fun h => hu h.1]
  have hdue : (s.drainBegun us).drainDue u = s.drainDue u := by
    simp only [State.drainDue, hunit]
    rfl
  unfold State.beginDrainCheck
  rw [hdue]
  by_cases hd : s.drainDue u = true
  · rw [if_pos hd, State.beginDrain_eq, hunit]
    refine State.ext_tables rfl (fun k => ?_) (fun v => ?_) (fun l => rfl) (fun l => ?_)
      (fun v => rfl)
    · change ((s.drainBegun us).told _).get k = _
      rw [State.told_get, s.drainBegun_port, s.drainBegun_port]
      simp [hd, PortRec.offerAll_append]
      rfl
    · change (Four.set ..).get v = _
      rw [Four.get_set, ← State.unit, s.drainBegun_unit, s.drainBegun_unit]
      by_cases hv : v = u
      · subst hv
        simp [hd]
        rfl
      · simp [hv]
    · change (Four.mapIdx ..).get l = _
      rw [Four.get_mapIdx, ← State.stage, s.drainBegun_stage, s.drainBegun_stage]
      change (if s.unitOf l = u then _ else _) = _
      by_cases hl : s.unitOf l = u
      · simp [hl, hd, hu]
        rfl
      · simp [hl]
  · rw [if_neg hd]
    refine State.ext_tables rfl (fun k => ?_) (fun v => ?_) (fun l => rfl) (fun l => ?_)
      (fun v => rfl)
    · rw [s.drainBegun_port, s.drainBegun_port]
      simp [hd]
    · rw [s.drainBegun_unit, s.drainBegun_unit]
      by_cases hv : v = u
      · subst hv
        simp [hd]
      · simp [hv]
    · rw [s.drainBegun_stage, s.drainBegun_stage]
      by_cases hl : s.unitOf l = u
      · simp [hl, hd]
      · simp [hl]

theorem State.drainBegun_nil (s : State) : s.drainBegun [] = s := by
  simp [State.drainBegun, Four.mapIdx_id]

theorem State.drainBegun_wait (s : State) (us : List UnitNo) (v : UnitNo) :
    ((s.drainBegun us).unit v).wait = (s.unit v).wait := by
  rw [s.drainBegun_unit]
  split <;> rfl

/-- R20: the drain checks of the four units. -/
theorem State.beginDrainChecks_eq (s : State) :
    four.foldl (fun s u => s.beginDrainCheck u) s = s.drainBegun four := by
  conv_lhs => rw [← s.drainBegun_nil]
  exact foldl_four fun us u hu => s.drainBegun_beginDrainCheck hu

theorem State.drainBegun_inQuiet (s : State) :
    (s.drainBegun four).inQuiet (four.filter s.drainDue) := fun u hu => by
  have hunit : (s.drainBegun four).unit u = s.quietRec u := by
    rw [s.drainBegun_unit, if_pos (by simpa using hu)]
  rw [hunit]
  exact ⟨s.quietRec_entersQuiet u, rfl⟩

/-- R27, R115: the drains of the four units with the supply out of GOOD, then the ends of quiet times
of 0. -/
theorem State.drainChecks_eq (s : State) (hsupply : s.supply.state ≠ .good) :
    s.drainChecks = (s.drainBegun four).quietEnded (four.filter s.drainDue) := by
  rw [State.drainChecks, State.beginDrainChecks_eq]
  exact State.endZeroQuiets_eq _ (four_nodup.filter _) s.drainBegun_inQuiet
    (fun u hu => .inr hsupply)

/-- R115 steps 1 to 3: the supply out of GOOD, every leg forced off and flushed, and SUPPLY_LOW sent to
every port. -/
def State.powerDown (s : State) : State :=
  { s with
    supply := { state := .down, timer := 0 }
    stages := s.stages.mapIdx fun l st => forceStage (s.legEntry l) st
    seqs := s.seqs.mapIdx fun _ q => q.flushed
    ports := s.told fun _ => [.supplyLow (Four.tabulate fun l => (s.seq l).discards)] }

theorem State.leaveGood_eq (s : State) : s.leaveGood = s.powerDown.drainChecks := by
  unfold State.leaveGood
  dsimp only
  rw [State.broadcast_eq]
  rfl

theorem State.powerDown_drainDue (s : State) (u : UnitNo) :
    s.powerDown.drainDue u = decide ((s.unit u).lease = .releasing) := by
  have hdrained : s.powerDown.unitDrained u = true := by
    rw [State.unitDrained_iff]
    intro l _
    exact (congrArg LegSeq.idleEmpty (Four.get_mapIdx ..)).trans rfl
  simp only [State.drainDue, hdrained, and_true]
  rfl

theorem State.leaveGood_unit (s : State) (v : UnitNo) :
    s.leaveGood.unit v =
      if (s.unit v).lease = .releasing then s.unitAfterLease v else s.unit v := by
  rw [State.leaveGood_eq, State.drainChecks_eq _ (by simp [State.powerDown]),
    State.quietEnded_unit]
  by_cases hrel : (s.unit v).lease = .releasing
  · rw [if_pos (by simp [Four.mem_four, State.powerDown_drainDue, hrel]), if_pos hrel]
    exact State.unitAfterLease_congr rfl (State.drainBegun_wait ..)
  · rw [if_neg (by simp [State.powerDown_drainDue, hrel]), if_neg hrel, State.drainBegun_unit,
      if_neg (by simp [State.powerDown_drainDue, hrel])]
    rfl

theorem State.leaveGood_stage (s : State) (l : Leg) :
    s.leaveGood.stage l = forceStage (s.legEntry l) (s.stage l) := by
  rw [State.leaveGood_eq, State.drainChecks_eq _ (by simp [State.powerDown])]
  change (s.powerDown.drainBegun four).stage l = _
  have hstage : s.powerDown.stage l = forceStage (s.legEntry l) (s.stage l) :=
    Four.get_mapIdx ..
  rw [State.drainBegun_stage, hstage]
  split
  · exact forceStage_forceStage ..
  · rfl

theorem State.leaveGood_seq (s : State) (l : Leg) : s.leaveGood.seq l = (s.seq l).flushed := by
  rw [State.leaveGood_eq, State.drainChecks_eq _ (by simp [State.powerDown])]
  exact Four.get_mapIdx ..

/-- The notices of a departure from GOOD for port `k` (R27, R116). -/
theorem State.leaveGood_port (s : State) (k : Port) :
    s.leaveGood.port k =
      (s.port k).offerAll
        (.supplyLow (Four.tabulate fun l => (s.seq l).discards) ::
          (((four.filter fun u => decide ((s.unit u).lease = .releasing)).flatMap fun u =>
              toPort (s.unit u).releasing [.releaseDone u] k) ++
            (four.filter fun u => decide ((s.unit u).lease = .releasing)).flatMap fun u =>
              s.grantTold u (s.tripped u) k)) s.time.stamp := by
  have hdue : s.powerDown.drainDue = fun u => decide ((s.unit u).lease = .releasing) :=
    funext s.powerDown_drainDue
  rw [State.leaveGood_eq, State.drainChecks_eq _ (by simp [State.powerDown])]
  change ((s.powerDown.drainBegun four).told _).get k = _
  have hport : s.powerDown.port k = (s.port k).offer
    (.supplyLow (Four.tabulate fun l => (s.seq l).discards)) s.time.stamp := State.told_get ..
  rw [State.told_get, State.drainBegun_port, hport, hdue, PortRec.offerAll_cons,
    PortRec.offerAll_append]
  have hdone : ((four.filter fun u => decide ((s.unit u).lease = .releasing)).flatMap fun u =>
        toPort (s.powerDown.unit u).holder [.releaseDone u] k) =
      (four.filter fun u => decide ((s.unit u).lease = .releasing)).flatMap fun u =>
        toPort (s.unit u).releasing [.releaseDone u] k := by
    simp only [List.flatMap]
    congr 1
    refine List.map_congr_left fun u hu => ?_
    have hrel : (s.unit u).lease = .releasing := by simpa [Four.mem_four] using hu
    rw [← UnitRec.holder_of_releasing hrel]
    rfl
  have hgrant : ∀ u, (s.powerDown.drainBegun four).grantTold u
      ((s.powerDown.drainBegun four).tripped u) k = s.grantTold u (s.tripped u) k := fun u =>
    congrFun (State.grantTold_congr (s := s) (t := s.powerDown.drainBegun four) (u := u) _ rfl
      (State.drainBegun_wait ..)) k
  rw [hdone]
  simp only [hgrant]
  rfl

/-- What a departure from GOOD leaves alone. -/
theorem State.leaveGood_frame (s : State) :
    s.leaveGood = { s with
      ports := s.leaveGood.ports, units := s.leaveGood.units, seqs := s.leaveGood.seqs
      stages := s.leaveGood.stages, supply := { state := .down, timer := 0 } } := by
  rw [State.leaveGood_eq, State.drainChecks_eq _ (by simp [State.powerDown])]
  rfl

/-- R112, section 1.5: a voltage above the bounds of VG_OK reads high. -/
theorem vgSample_high {vg : Nat} (h : 1400000 < vg) : vgSample vg = .high := by
  unfold vgSample Config.vgLowMin Config.vgLowMax Config.vgOkMin Config.vgOkMax
  rw [if_neg (by omega), if_neg (by omega), if_neg (by omega), if_neg (by omega)]

/-- R112, section 1.5: a voltage below the bounds of VG_LOW reads low. -/
theorem vgSample_low {vg : Nat} (h : vg < 1100000) : vgSample vg = .low := if_pos h

/-- R56: the four conditions of drive permission. -/
theorem State.drivePermitted_iff (s : State) (l : Leg) :
    s.drivePermitted l = true ↔
      ((s.unit (s.unitOf l)).lease = .held ∨ (s.unit (s.unitOf l)).lease = .releasing) ∧
        s.tripped (s.unitOf l) = false ∧ s.supply.state = .good ∧ s.setup.phase = .run := by
  simp [State.drivePermitted, and_assoc]

/-- R119: what the arrival at GOOD does. -/
theorem State.enterGood_eq (s : State) :
    s.enterGood =
      { s with
        supply := { state := .good, timer := 0 }
        stages := s.stages.mapIdx fun l st =>
          if ((s.unit (s.unitOf l)).lease = .held ∨ (s.unit (s.unitOf l)).lease = .releasing) ∧
              s.tripped (s.unitOf l) = false ∧ s.setup.phase = .run then
            restStage (s.legEntry l) (decide ((s.unit (s.unitOf l)).lease = .held)) st
          else st
        ports := s.told fun _ => [.supplyGood] } := by
  unfold State.enterGood
  rw [State.broadcast_eq]
  refine State.ext_tables rfl (fun k => rfl) (fun v => rfl) (fun l => rfl) (fun l => ?_)
    (fun v => rfl)
  change (Four.mapIdx ..).get l = (Four.mapIdx ..).get l
  rw [Four.get_mapIdx, Four.get_mapIdx]
  have hdrive : (s.setSupplyRec { state := .good, timer := 0 }).drivePermitted l = true ↔
      ((s.unit (s.unitOf l)).lease = .held ∨ (s.unit (s.unitOf l)).lease = .releasing) ∧
        s.tripped (s.unitOf l) = false ∧ s.setup.phase = .run := by
    rw [State.drivePermitted_iff]
    simp
  simp only [hdrive]
  rfl

/-- Settles O49: the four supply events by the voltage that each row carries. -/
theorem theSupplyLeavesAndReachesGood : Obligations.TheSupplyLeavesAndReachesGood := by
  refine ⟨fun s vg => ⟨fun hdown hvg => ?rise, fun hsettling hvg => ?fall,
    fun hsettling htimer => ?arrive⟩, fun s vg hgood hvg => ?leave⟩
  case rise => exact congrArg Host.Outcome.next (if_pos ⟨hdown, vgSample_high hvg⟩)
  case fall => exact congrArg Host.Outcome.next (if_pos ⟨hsettling, vgSample_low hvg⟩)
  case arrive =>
    have hdue : s.settleDue = true := decide_eq_true ⟨hsettling, htimer⟩
    exact congrArg Host.Outcome.next ((if_pos hdue).trans s.enterGood_eq)
  case leave =>
    refine congrArg Host.Outcome.next ((if_pos ⟨hgood, vgSample_low hvg⟩).trans ?_)
    simp only [← LegSeq.discards_eq]
    refine State.ext_get (by rw [s.leaveGood_frame]) (fun k => ?_) (fun v => ?_) (fun l => ?_) (fun l => ?_)
      (fun v => by rw [s.leaveGood_frame]; rfl)
    · rw [s.leaveGood_port, State.told_get]
    · rw [s.leaveGood_unit, Four.get_mapIdx]
      rfl
    · rw [s.leaveGood_seq, Four.get_mapIdx]
      rfl
    · rw [s.leaveGood_stage, Four.get_mapIdx]
      rfl

/-! ### PORT_RESET at the Lease Manager (R25) -/

/-- Port `p` owns or is releasing unit `u`. -/
def State.leasedTo (s : State) (p : Port) (u : UnitNo) : Bool :=
  (s.unit u).ownedBy p || (s.unit u).releasedBy p

/-- `s` with port `p` out of every wait list. -/
def State.unwaited (s : State) (p : Port) : State :=
  { s with
    units := s.units.mapIdx fun _ r => { r with wait := r.wait.filter fun w => w.port ≠ p } }

/-- `s` after PORT_RESET of port `p` has come to the units `us`. -/
def State.resetFor (s : State) (p : Port) (us : List UnitNo) : State :=
  { s with
    units := s.units.mapIdx fun u r =>
      if u ∈ us ∧ s.present u = true then
        if s.leasedTo p u = true then (s.unwaited p).unitAfterLease u
        else (s.unwaited p).unit u
      else r
    seqs := s.seqs.mapIdx fun l q =>
      if s.unitOf l ∈ us ∧ s.leasedTo p (s.unitOf l) = true then q.flushed else q
    stages := s.stages.mapIdx fun l st =>
      if s.unitOf l ∈ us ∧ s.leasedTo p (s.unitOf l) = true then
        ((s.unwaited p).legsAfterLease (s.unitOf l) (s.tripped (s.unitOf l)) fun _ st => st).get l
      else st
    ports := s.told fun k =>
      (us.filter fun u => s.present u && s.leasedTo p u).flatMap fun u =>
        (s.unwaited p).grantTold u (s.tripped u) k }

theorem State.resetFor_unit (s : State) (p : Port) (us : List UnitNo) (v : UnitNo) :
    (s.resetFor p us).unit v =
      if v ∈ us ∧ s.present v = true then
        if s.leasedTo p v = true then (s.unwaited p).unitAfterLease v
        else (s.unwaited p).unit v
      else s.unit v := Four.get_mapIdx ..

theorem State.resetFor_seq (s : State) (p : Port) (us : List UnitNo) (l : Leg) :
    (s.resetFor p us).seq l =
      if s.unitOf l ∈ us ∧ s.leasedTo p (s.unitOf l) = true then (s.seq l).flushed
      else s.seq l := Four.get_mapIdx ..

theorem State.resetFor_stage (s : State) (p : Port) (us : List UnitNo) (l : Leg) :
    (s.resetFor p us).stage l =
      if s.unitOf l ∈ us ∧ s.leasedTo p (s.unitOf l) = true then
        ((s.unwaited p).legsAfterLease (s.unitOf l) (s.tripped (s.unitOf l)) fun _ st => st).get l
      else s.stage l := Four.get_mapIdx ..

theorem State.resetFor_port (s : State) (p : Port) (us : List UnitNo) (k : Port) :
    (s.resetFor p us).port k =
      (s.port k).offerAll
        ((us.filter fun u => s.present u && s.leasedTo p u).flatMap fun u =>
          (s.unwaited p).grantTold u (s.tripped u) k) s.time.stamp := State.told_get ..

theorem State.unwaited_unit (s : State) (p : Port) (u : UnitNo) :
    (s.unwaited p).unit u =
      { s.unit u with wait := (s.unit u).wait.filter fun w => w.port ≠ p } := Four.get_mapIdx ..

/-! #### An abort, table by table (R5) -/

theorem State.abort_unit (s : State) (u : UnitNo) (n : Option Notice) (v : UnitNo) :
    (s.abort u n).unit v = if v = u then s.unitAfterLease u else s.unit v := by
  rw [State.abort_eq]
  exact Four.get_set ..

theorem State.abort_seq (s : State) (u : UnitNo) (n : Option Notice) (l : Leg) :
    (s.abort u n).seq l = if s.unitOf l = u then (s.seq l).flushed else s.seq l := by
  rw [State.abort_eq]
  exact Four.get_mapIdx ..

theorem State.abort_stage (s : State) (u : UnitNo) (n : Option Notice) (l : Leg) :
    (s.abort u n).stage l = (s.legsAfterLease u (s.tripped u) fun _ st => st).get l := by
  rw [State.abort_eq]
  rfl

theorem State.abort_port (s : State) (u : UnitNo) (k : Port) :
    (s.abort u none).port k = (s.port k).offerAll (s.grantTold u (s.tripped u) k) s.time.stamp := by
  rw [State.abort_eq]
  exact State.told_get ..

/-- What an abort leaves alone. -/
theorem State.abort_frame (s : State) (u : UnitNo) (n : Option Notice) :
    s.abort u n = { s with
      ports := (s.abort u n).ports, units := (s.abort u n).units, seqs := (s.abort u n).seqs
      stages := (s.abort u n).stages } := by
  rw [State.abort_eq]
  rfl

/-- The stage of a leg of the unit whose lease ends (R5, R56). -/
theorem State.legsAfterLease_get (s : State) (u : UnitNo) (tripped : Bool)
    (before : LegEntry → Stage → Stage) {l : Leg} (hl : s.unitOf l = u) :
    (s.legsAfterLease u tripped before).get l =
      if (s.unitAfterLease u).lease = .held ∧ tripped = false ∧ s.supply.state = .good ∧
          s.setup.phase = .run then
        restStage (s.legEntry l) true
          (forceStage (s.legEntry l) (before (s.legEntry l) (s.stage l)))
      else forceStage (s.legEntry l) (before (s.legEntry l) (s.stage l)) := by
  rw [State.legsAfterLease, Four.get_mapIdx, if_pos hl]
  rfl

theorem State.legsAfterLease_get_other (s : State) (u : UnitNo) (tripped : Bool)
    (before : LegEntry → Stage → Stage) {l : Leg} (hl : s.unitOf l ≠ u) :
    (s.legsAfterLease u tripped before).get l = s.stage l := by
  rw [State.legsAfterLease, Four.get_mapIdx, if_neg hl]
  rfl

/-- R25: PORT_RESET comes to one more unit. -/
theorem State.resetFor_resetUnitFor (s : State) (p : Port) {us : List UnitNo} {u : UnitNo}
    (hu : u ∉ us) : (s.resetFor p us).resetUnitFor p u = s.resetFor p (us ++ [u]) := by
  have hunit : (s.resetFor p us).unit u = s.unit u := by
    rw [s.resetFor_unit, if_neg fun h => hu h.1]
  have hpresent : (s.resetFor p us).present u = s.present u := rfl
  unfold State.resetUnitFor
  rw [hpresent]
  by_cases hp : s.present u = true
  · rw [if_pos hp, hunit]
    dsimp only
    change (if s.leasedTo p u = true then _ else _) = _
    by_cases hleased : s.leasedTo p u = true
    · rw [if_pos hleased]
      generalize ht : (s.resetFor p us).setUnit u _ = t
      have hwait : (t.unit u).wait = ((s.unwaited p).unit u).wait := by
        rw [← ht, State.setUnit_unit_same, s.unwaited_unit]
      have hentry : t.unitEntry u = (s.unwaited p).unitEntry u := by rw [← ht]; rfl
      have htripped : t.tripped u = s.tripped u := by rw [← ht]; rfl
      have hafter : t.unitAfterLease u = (s.unwaited p).unitAfterLease u :=
        State.unitAfterLease_congr hentry hwait
      refine State.ext_tables ?_ (fun k => ?_) (fun v => ?_) (fun l => ?_) (fun l => ?_)
        (fun v => ?_)
      · rw [State.abort_frame, ← ht]
        rfl
      · rw [State.abort_port, htripped, State.grantTold_congr _ hentry hwait, ← ht,
          State.setUnit_port, s.resetFor_port, s.resetFor_port]
        simp [hp, hleased, PortRec.offerAll_append]
        rfl
      · rw [State.abort_unit, hafter, ← ht, State.setUnit_unit, s.resetFor_unit, s.resetFor_unit]
        by_cases hv : v = u
        · subst hv
          simp [hp, hleased]
        · simp [hv]
      · rw [State.abort_seq, ← ht, State.setUnit_seq, s.resetFor_seq, s.resetFor_seq]
        change (if s.unitOf l = u then _ else _) = _
        by_cases hl : s.unitOf l = u
        · simp [hl, hleased, hu]
        · simp [hl]
      · have hmap : t.unitOf l = s.unitOf l := by rw [← ht]; rfl
        rw [State.abort_stage, htripped, s.resetFor_stage]
        by_cases hl : s.unitOf l = u
        · have hstage : t.stage l = (s.unwaited p).stage l := by
            rw [← ht, State.setUnit_stage, s.resetFor_stage, if_neg (by simp [hl, hu])]
            rfl
          rw [if_pos (by simp [hl, hleased]), hl, State.legsAfterLease_get _ _ _ _ (hmap.trans hl),
            State.legsAfterLease_get (s.unwaited p) _ _ _ hl, hafter, hstage, ← ht]
          rfl
        · rw [State.legsAfterLease_get_other _ _ _ _ (hmap ▸ hl), ← ht, State.setUnit_stage,
            s.resetFor_stage]
          simp [hl]
      · rw [State.abort_frame, ← ht]
        rfl
    · rw [if_neg hleased]
      refine State.ext_tables rfl (fun k => ?_) (fun v => ?_) (fun l => ?_) (fun l => ?_)
        (fun v => rfl)
      · rw [State.setUnit_port, s.resetFor_port, s.resetFor_port]
        simp [hleased]
      · rw [State.setUnit_unit, s.resetFor_unit, s.resetFor_unit]
        by_cases hv : v = u
        · subst hv
          simp [hp, hleased, s.unwaited_unit]
        · simp [hv]
      · rw [State.setUnit_seq, s.resetFor_seq, s.resetFor_seq]
        by_cases hl : s.unitOf l = u
        · simp [hl, hleased]
        · simp [hl]
      · rw [State.setUnit_stage, s.resetFor_stage, s.resetFor_stage]
        by_cases hl : s.unitOf l = u
        · simp [hl, hleased]
        · simp [hl]
  · rw [if_neg hp]
    have hleg : ∀ l, s.unitOf l ≠ u := by
      rintro l rfl
      exact hp (s.present_unitOf l)
    refine State.ext_tables rfl (fun k => ?_) (fun v => ?_) (fun l => ?_) (fun l => ?_)
      (fun v => rfl)
    · rw [s.resetFor_port, s.resetFor_port]
      simp [hp]
    · rw [s.resetFor_unit, s.resetFor_unit]
      by_cases hv : v = u
      · subst hv
        simp [hp]
      · simp [hv]
    · rw [s.resetFor_seq, s.resetFor_seq]
      simp [hleg l]
    · rw [s.resetFor_stage, s.resetFor_stage]
      simp [hleg l]

theorem State.resetFor_nil (s : State) (p : Port) : s.resetFor p [] = s := by
  simp [State.resetFor, Four.mapIdx_id]

/-- R25: PORT_RESET at the four units. -/
theorem State.resetUnits_eq (s : State) (p : Port) :
    four.foldl (fun s u => s.resetUnitFor p u) s = s.resetFor p four := by
  conv_lhs => rw [← s.resetFor_nil p]
  exact foldl_four fun us u hu => s.resetFor_resetUnitFor p hu

/-- R147: the lock of a port is dropped, and nothing else. -/
theorem State.dropLockOf_eq (s : State) (p : Port) :
    s.dropLockOf p = { s with
      setup := if s.setup.holder = some p then { s.setup with holder := none, inactivity := 0 }
        else s.setup } := by
  unfold State.dropLockOf
  split <;> rfl

theorem State.leftBy_eq (s : State) (p : Port) :
    s.leftBy p = { s.resetFor p four with
      setup := if s.setup.holder = some p then { s.setup with holder := none, inactivity := 0 }
        else s.setup } := by
  rw [State.leftBy, State.resetUnits_eq, State.dropLockOf_eq]
  rfl

/-- The lease operations read no port record. -/
theorem State.resetFor_setPort (s : State) (p k : Port) (r : PortRec) (us : List UnitNo) :
    ((s.setPort k r).resetFor p us).units = (s.resetFor p us).units ∧
      ((s.setPort k r).resetFor p us).seqs = (s.resetFor p us).seqs ∧
      ((s.setPort k r).resetFor p us).stages = (s.resetFor p us).stages :=
  ⟨rfl, rfl, rfl⟩

/-- R6, R25: after its lease, a unit with no wait entry of port `p` is not leased to `p`, nor does `p`
wait for it. -/
theorem State.unitAfterLease_other {s : State} {u : UnitNo} {p : Port}
    (h : ∀ w ∈ (s.unit u).wait, w.port ≠ p) :
    (s.unitAfterLease u).ownedBy p = false ∧ (s.unitAfterLease u).releasedBy p = false ∧
      ∀ w ∈ (s.unitAfterLease u).wait, w.port ≠ p := by
  unfold State.unitAfterLease
  split
  · exact ⟨by simp [UnitRec.ownedBy], by simp [UnitRec.releasedBy], h⟩
  · split
    · simp [UnitRec.reset, UnitRec.ownedBy, UnitRec.releasedBy]
    next w rest hw =>
      rw [hw] at h
      refine ⟨?_, by simp [UnitRec.releasedBy], fun x hx => h x (List.mem_cons_of_mem _ hx)⟩
      simpa [UnitRec.ownedBy] using h w (List.mem_cons_self ..)

/-- R161: the port of a PORT_RESET at the end of its transaction. -/
theorem PortRec.finish_empty_append (r : PortRec) (e : Entry) (n : Nat) :
    (r.empty.append e).finish [] n = { r.finish [] n with
      queue := [e], dropped := false, missed := false, droppedShown := false
      missedShown := false, missedAnew := false } := rfl

/-- Settles O16: PORT_RESET empties the queue of its port, comes to the four units in turn, drops the
lock, and places its one reply. -/
theorem aPortResetGivesACleanStart : Obligations.APortResetGivesACleanStart := by
  intro p seq s htake
  obtain ⟨hopen, hroom⟩ := htake
  obtain ⟨r, hqueue, hfinish, htaken⟩ :=
    s.takeCommand_open p .portReset (fun s => s.portReset p seq) hopen (commandCode_ne_read _)
  rw [if_pos (by rwa [hqueue])] at htaken
  have hreset : (s.setPort p r).portReset p seq =
      ((s.setPort p r.empty).leftBy p).place p (.reply .portReset seq .ok []) := by
    show ((((s.setPort p r).setPort p ((s.setPort p r).port p).empty).leftBy p).place p _) = _
    rw [State.setPort_port_same, State.setPort_setPort]
  rw [hreset] at htaken
  generalize hs₂ : s.setPort p r.empty = s₂ at htaken
  have hs₂port : s₂.port p = r.empty := by rw [← hs₂, State.setPort_port_same]
  have hleft : s₂.leftBy p = { s.resetFor p four with
      ports := (s₂.leftBy p).ports
      setup := if s.setup.holder = some p then { s.setup with holder := none, inactivity := 0 }
        else s.setup } := by
    rw [State.leftBy_eq, ← hs₂]
    rfl
  generalize ht : ((s₂.leftBy p).place p (.reply .portReset seq .ok [])).finish p []
    (bodyLength .portReset + 4) = t at htaken
  have hself : t.port p =
      { (s.port p).afterRise (s.statusItems p) [] (bodyLength .portReset + 4) with
        queue := [.reply .portReset seq .ok []], dropped := false, missed := false
        missedAnew := false } := by
    rw [← ht, State.finish, State.setPort_port_same, State.place, State.setPort_port_same,
      State.leftBy_port_self, hs₂port, PortRec.finish_empty_append, hfinish]
    rfl
  have hother (k : Port) (hk : k ≠ p) : t.port k = (s₂.resetFor p four).port k := by
    rw [← ht, State.finish, State.setPort_port_ne _ _ _ _ hk, State.place,
      State.setPort_port_ne _ _ _ _ hk, State.leftBy_eq]
    rfl
  have hframe : t = { s.resetFor p four with
      ports := t.ports
      setup := if s.setup.holder = some p then { s.setup with holder := none, inactivity := 0 }
        else s.setup } := by
    rw [← ht, State.finish, State.place, hleft]
    rfl
  have hunit (u : UnitNo) : t.unit u = (s.resetFor p four).unit u := by
    rw [hframe]
    rfl
  have hheld (u : UnitNo) : s.leasedTo p u = true ↔
      (s.unit u).ownedBy p = true ∨ (s.unit u).releasedBy p = true := by
    rw [State.leasedTo, Bool.or_eq_true]
  have hclear (u : UnitNo) : ∀ w ∈ ((s.unwaited p).unit u).wait, w.port ≠ p := by
    simp [s.unwaited_unit]
  dsimp only
  refine ⟨t, congrArg Host.Outcome.next htaken, ?_, ?_, ?_, ?_, hself, ?others, ?units, ?absent,
    ?legs, ?frame⟩
  · rw [hself]
  · rw [hself]
  · rw [hself]
  · rw [hself]
    rfl
  case others =>
    intro k hk
    rw [hother k hk, State.resetFor_port, ← hs₂, State.setPort_port_ne _ _ _ _ hk]
    rfl
  case units =>
    intro u hu
    rw [hunit, s.resetFor_unit, if_pos ⟨Four.mem_four u, hu⟩]
    by_cases hl : s.leasedTo p u = true
    · obtain ⟨howned, hreleased, hwait⟩ := State.unitAfterLease_other (hclear u)
      rw [if_pos hl]
      exact ⟨howned, hreleased, hwait, fun h => absurd ((hheld u).mp hl) h, fun _ => rfl⟩
    · rw [if_neg hl]
      have hnot : ¬ ((s.unit u).ownedBy p = true ∨ (s.unit u).releasedBy p = true) :=
        fun h => hl ((hheld u).mpr h)
      have hfalse := hnot
      rw [not_or, Bool.not_eq_true, Bool.not_eq_true] at hfalse
      rw [s.unwaited_unit]
      exact ⟨hfalse.1, hfalse.2, s.unwaited_unit p u ▸ hclear u,
        fun _ => (s.unwaited_unit p u).symm, fun h => absurd h hnot⟩
  case absent =>
    intro u hu
    rw [hunit, s.resetFor_unit, if_neg (by simp [hu])]
  case legs =>
    intro l
    have hseq : t.seq l = (s.resetFor p four).seq l := by
      rw [hframe]
      rfl
    have hstage : t.stage l = (s.resetFor p four).stage l := by
      rw [hframe]
      rfl
    rw [hseq, hstage, s.resetFor_seq, s.resetFor_stage]
    refine ⟨fun h => ?_, fun h => ?_⟩
    · rw [if_pos ⟨Four.mem_four _, (hheld _).mpr h⟩, if_pos ⟨Four.mem_four _, (hheld _).mpr h⟩]
      exact ⟨rfl, rfl⟩
    · rw [if_neg fun h' => h ((hheld _).mp h'.2), if_neg fun h' => h ((hheld _).mp h'.2)]
      exact ⟨rfl, rfl⟩
  case frame =>
    rw [hframe]
    rfl

end Sys2Proof.Machine
end

section
/-! PROOFS. What a row does, as a chain of elementary moves of the part. `Act` lists what a row does
and when; `Move` lists the few changes that every act is made of, each with the premises under which it
is made, and `Act.moves` says that there are no others. A law of the part is then kept by every step
when each move keeps it. -/

namespace Sys2Proof.Machine

/-! ### Moves of one unit record -/

/-- The record of a unit granted to port `p` for `ms` milliseconds, the wait list then being `wait`
(R6, R13). -/
def heldRec (p : Port) (ms : Nat) (wait : List WaitEntry) : UnitRec :=
  { lease := .held, owner := some p, releasing := none, period := some ms, remaining := ms
    leaseLowArmed := true, quiet := 0, wait := wait }

/-- What the Lease Manager does to a unit record, each move with the premise under which it does so. -/
inductive UnitMove : UnitRec → UnitRec → Prop
  | refl (r : UnitRec) : UnitMove r r
  | trans {a b c : UnitRec} (h : UnitMove a b) (h' : UnitMove b c) : UnitMove a c
  | reset (r : UnitRec) : UnitMove r .reset
  | toQuiet (r : UnitRec) (us : Nat) : UnitMove r { r.toQuiet with quiet := us }
  | freed (r : UnitRec) (hquiet : r.lease = .quiet) (hwait : r.wait = []) :
      UnitMove r { r with lease := .free, quiet := 0 }
  | grantFirst (r : UnitRec) (w : WaitEntry) (rest : List WaitEntry) (hwait : r.wait = w :: rest) :
      UnitMove r (heldRec w.port w.period rest)
  | grantFree (r : UnitRec) (p : Port) (ms : Nat) (hfree : r.lease = .free) :
      UnitMove r (heldRec p ms r.wait)
  | join (r : UnitRec) (w : WaitEntry) (hfree : r.lease ≠ .free)
      (howner : ¬ (r.lease = .held ∧ r.owner = some w.port))
      (hwait : ∀ x ∈ r.wait, x.port ≠ w.port) : UnitMove r { r with wait := r.wait ++ [w] }
  | filterWait (r : UnitRec) (keep : WaitEntry → Bool) :
      UnitMove r { r with wait := r.wait.filter keep }
  | renew (r : UnitRec) (hheld : r.lease = .held) : UnitMove r r.renewed
  | toReleasing (r : UnitRec) (hheld : r.lease = .held) : UnitMove r r.toReleasing
  | tick (r : UnitRec) : UnitMove r r.tick
  | disarm (r : UnitRec) : UnitMove r { r with leaseLowArmed := false }
  | quietStep (r : UnitRec) : UnitMove r r.quietStep

/-! ### The law of one unit record -/

theorem UnitRec.reset_lawful : UnitRec.reset.lawful := by
  simp [UnitRec.lawful, UnitRec.reset]

theorem heldRec_lawful {p : Port} {ms : Nat} {wait : List WaitEntry}
    (hnodup : (wait.map WaitEntry.port).Nodup) (hp : ∀ w ∈ wait, w.port ≠ p) :
    (heldRec p ms wait).lawful := by
  refine ⟨nofun, fun _ => ⟨rfl, rfl, rfl, rfl⟩, nofun, nofun, hnodup, fun w hw hport => ?_⟩
  exact hp w hw (Option.some.inj hport).symm

/-- A wait list that is cut keeps the law of its record, but in FREE, whose list is empty. -/
theorem UnitRec.filterWait_lawful {r : UnitRec} (h : r.lawful) (keep : WaitEntry → Bool) :
    UnitRec.lawful { r with wait := r.wait.filter keep } := by
  obtain ⟨hfree, hheld, hreleasing, hquiet, hnodup, howner⟩ := h
  refine ⟨fun hl => ?_, hheld, hreleasing, hquiet, ?_, fun w hw => ?_⟩
  · have hr := hfree hl
    subst hr
    rfl
  · exact hnodup.sublist ((r.wait.filter_sublist).map _)
  · exact howner w (List.mem_of_mem_filter hw)

theorem UnitRec.join_lawful {r : UnitRec} {w : WaitEntry} (h : r.lawful) (hfree : r.lease ≠ .free)
    (howner : ¬ (r.lease = .held ∧ r.owner = some w.port))
    (hwait : ∀ x ∈ r.wait, x.port ≠ w.port) :
    UnitRec.lawful { r with wait := r.wait ++ [w] } := by
  obtain ⟨-, hheld, hreleasing, hquiet, hnodup, howners⟩ := h
  have hnew : r.owner ≠ some w.port := by
    intro hp
    cases hl : r.lease with
    | free => exact hfree hl
    | held => exact howner ⟨hl, hp⟩
    | releasing => simp [(hreleasing hl).1] at hp
    | quiet => simp [(hquiet hl).1] at hp
  refine ⟨fun hl => absurd hl hfree, hheld, hreleasing, hquiet, ?_, fun x hx => ?_⟩
  · rw [List.map_append, List.nodup_append]
    refine ⟨hnodup, by simp, ?_⟩
    rintro a ha b hb rfl
    obtain ⟨x, hx, rfl⟩ := List.mem_map.mp ha
    exact hwait x hx (by simpa using hb)
  · obtain hx | hx := List.mem_append.mp hx
    · exact howners x hx
    · obtain rfl := List.mem_singleton.mp hx
      exact hnew

theorem UnitRec.tick_lawful {r : UnitRec} (h : r.lawful) : r.tick.lawful := by
  obtain ⟨hfree, hheld, hreleasing, hquiet, hnodup, howner⟩ := h
  refine ⟨fun hl => ?_, hheld, hreleasing, fun hl => ?_, ?_, fun w hw => ?_⟩
  · have hr := hfree hl
    subst hr
    rfl
  · have hl : r.lease = .quiet := hl
    obtain ⟨hown, hrel, hper, hrem, harm⟩ := hquiet hl
    exact ⟨hown, hrel, hper, by simp [UnitRec.tick, hl, hrem], harm⟩
  · simpa [UnitRec.tick, List.map_map, Function.comp_def, WaitEntry.tick] using hnodup
  · obtain ⟨x, hx, rfl⟩ := List.mem_map.mp hw
    exact howner x hx

/-- R2, R6, R10: every move of a unit record keeps its law. -/
theorem UnitMove.lawful {a b : UnitRec} (h : UnitMove a b) (ha : a.lawful) : b.lawful := by
  induction h with
  | refl => exact ha
  | trans _ _ ih ih' => exact ih' (ih ha)
  | reset => exact UnitRec.reset_lawful
  | toQuiet r us =>
    obtain ⟨-, -, -, -, hnodup, -⟩ := ha
    exact ⟨nofun, nofun, nofun, fun _ => ⟨rfl, rfl, rfl, rfl, rfl⟩, hnodup, fun _ _ => nofun⟩
  | freed r hq hwait =>
    obtain ⟨-, -, -, hquiet, -, -⟩ := ha
    obtain ⟨howner, hreleasing, hperiod, hremaining, harmed⟩ := hquiet hq
    have hr : ({ r with lease := .free, quiet := 0 } : UnitRec) = .reset := by
      rw [howner, hreleasing, hperiod, hremaining, harmed, hwait]
      rfl
    rw [hr]
    exact UnitRec.reset_lawful
  | grantFirst r w rest hwait =>
    obtain ⟨-, -, -, -, hnodup, -⟩ := ha
    rw [hwait, List.map_cons, List.nodup_cons] at hnodup
    obtain ⟨hfirst, hrest⟩ := hnodup
    exact heldRec_lawful hrest fun x hx hport => hfirst (hport ▸ List.mem_map_of_mem hx)
  | grantFree r p ms hl =>
    obtain ⟨hfree, -, -, -, -, -⟩ := ha
    have hr := hfree hl
    subst hr
    exact heldRec_lawful List.nodup_nil nofun
  | join r w hfree howner hwait => exact UnitRec.join_lawful ha hfree howner hwait
  | filterWait r keep => exact UnitRec.filterWait_lawful ha keep
  | renew r hl =>
    obtain ⟨-, hheld, -, -, hnodup, howner⟩ := ha
    have hl' : r.renewed.lease = .held := hl
    exact ⟨fun h => by simp [hl'] at h, fun _ => hheld hl, fun h => by simp [hl'] at h,
      fun h => by simp [hl'] at h, hnodup, howner⟩
  | toReleasing r hl =>
    obtain ⟨-, hheld, -, -, hnodup, -⟩ := ha
    obtain ⟨howner, -, hperiod, hquiet⟩ := hheld hl
    exact ⟨nofun, nofun, fun _ => ⟨rfl, howner, hperiod, hquiet, rfl⟩, nofun, hnodup,
      fun _ _ => nofun⟩
  | tick r => exact UnitRec.tick_lawful ha
  | disarm r =>
    obtain ⟨hfree, hheld, hreleasing, hquiet, hnodup, howner⟩ := ha
    refine ⟨fun hl => ?_, hheld, fun hl => ?_, fun hl => ?_, hnodup, howner⟩
    · have hr := hfree hl
      subst hr
      rfl
    · obtain ⟨h₁, h₂, h₃, h₄, -⟩ := hreleasing hl
      exact ⟨h₁, h₂, h₃, h₄, rfl⟩
    · obtain ⟨h₁, h₂, h₃, h₄, -⟩ := hquiet hl
      exact ⟨h₁, h₂, h₃, h₄, rfl⟩
  | quietStep r =>
    unfold UnitRec.quietStep
    split
    next hl =>
      obtain ⟨-, -, -, hquiet, hnodup, howner⟩ := ha
      exact ⟨fun h => by simp [hl] at h, fun h => by simp [hl] at h, fun h => by simp [hl] at h,
        fun _ => hquiet hl, hnodup, howner⟩
    next => exact ha

/-! ### Moves of the part -/

/-- R30: the pending queue of a leg has room for 16, and is empty without an active segment. -/
abbrev LegSeq.lawful (q : LegSeq) : Prop := q.queue.length ≤ 16 ∧ (q.active = none → q.queue = [])

/-- What a change of the sequencer and the stage of one leg keeps to: a leg leaves FORCED only with
drive permitted or an active segment (R56), a leg left FORCED stays off, and a leg is not made busy
but with drive permitted or busy already (R40, R41). -/
structure LegMove (s : State) (l : Leg) (q : LegSeq) (st : Stage) : Prop where
  awake : st.state ≠ .forced →
    s.drivePermitted l = true ∨ (s.stage l).state ≠ .forced ∨ (s.seq l).active ≠ none
  forced : st.state = .forced →
    (s.stage l).state = .forced ∧ ((s.seq l).active = none → q.active = none) ∧
      ((s.stage l).gh = false ∧ (s.stage l).gl = false → st.gh = false ∧ st.gl = false)
  queue : (s.seq l).lawful → q.lawful
  idle : s.drivePermitted l = true ∨ ((s.seq l).idleEmpty = true → q.idleEmpty = true)

/-- A trip can be asked for: the phase is RUN, or a sense input is armed (R78, R102). -/
def State.canTrip (s : State) : Prop := s.setup.phase = .run ∨ ∃ n, (s.sense n).armed = true

/-- The stage records with the legs of unit `u` forced off. -/
def State.stagesForced (s : State) (u : UnitNo) : Four Stage :=
  s.stages.mapIdx fun l st => if s.unitOf l = u then forceStage (s.legEntry l) st else st

/-- The elementary changes of the part within one event; none of them writes the Timebase. -/
inductive Move (s : State) : State → Prop
  | tell (ns : Port → List Notice) : Move s { s with ports := s.told ns }
  | sampleFaultN (v : Level) : Move s { s with faultN := v }
  | supply (v : Supply) (h : v.state = .good → s.supply.state = .good)
      (h' : s.supply.state = .good → v.state = .good) : Move s (s.setSupplyRec v)
  | powerDown : Move s
      { s with
        supply := { state := .down, timer := 0 }
        stages := s.stages.mapIdx fun l st => forceStage (s.legEntry l) st
        seqs := s.seqs.mapIdx fun _ q => q.flushed }
  | powerUp (h : s.supply.state ≠ .good) :
      Move s (s.setSupplyRec { state := .good, timer := 0 }).restoreAll
  | lock (p : Port) (hsetup : s.setup.phase = .setup) :
      Move s (s.setLock (some p) Config.lockLimit)
  | unlock (h : s.setup.holder ≠ none) : Move s (s.setLock none 0)
  | lockTick : Move s { s with setup := s.setup.tick }
  | board (b : Board) (hsetup : s.setup.phase = .setup) (hmap : b.unitMap = s.board.unitMap) :
      Move s (s.setBoard b)
  | unitMap (m : Four UnitNo) (hsetup : s.setup.phase = .setup) : Move s (s.setUnitMap m)
  | enterRun (hsetup : s.setup.phase = .setup) : Move s s.enterRun
  | unit (u : UnitNo) (r : UnitRec) (h : UnitMove (s.unit u) r)
      (hlease : r.lease = (s.unit u).lease) : Move s (s.setUnit u r)
  | freed (u : UnitNo) (hquiet : (s.unit u).lease = .quiet) (hwait : (s.unit u).wait = []) :
      Move s (s.setUnit u { s.unit u with lease := .free, quiet := 0 })
  | grant (u : UnitNo) (p : Port) (ms : Nat) (rest : List WaitEntry)
      (h : UnitMove (s.unit u) (heldRec p ms rest))
      (hlease : (s.unit u).lease = .free ∨ (s.unit u).lease = .quiet) :
      Move s (s.granted u p ms rest)
  | finish (u : UnitNo) (hheld : (s.unit u).lease = .held) :
      Move s ((s.setUnit u (s.unit u).toReleasing).onUnitStages u idleStage)
  | leave (u : UnitNo) (flush : Bool) (h : flush = true ∨ s.unitDrained u = true) :
      Move s
        { s with
          units := s.units.set u (s.quietRec u)
          stages := s.stagesForced u
          seqs := if flush then s.seqsFlushed u else s.seqs }
  | strike (u : UnitNo) (c : Cause) (leg : Option Leg) (hcan : s.canTrip) :
      Move s
        { s with
          trips := s.trips.set u (s.tripEntry u c leg)
          stages := s.stagesForced u
          seqs := s.seqsFlushed u }
  | later (u : UnitNo) (c : Cause) (h : s.tripped u = true) :
      Move s (s.setTrip u ((s.trip u).addLater c))
  | clearTrip (u : UnitNo) (h : s.tripped u = true) : Move s (s.clearTrip u)
  | sense (n : SenseNo) (r : SenseRec) (harmed : r.armed = (s.sense n).armed)
      (hidle : r.armed = false → r = { s.sense n with raw := r.raw }) : Move s (s.setSenseRec n r)
  | leg (l : Leg) (q : LegSeq) (st : Stage) (h : LegMove s l q st) :
      Move s ((s.setSeq l q).setStage l st)
  | wu : Move s (s.setStages (s.stages.mapIdx fun _ st => wuStage st))

/-- A chain of elementary changes. -/
def Moves (s t : State) : Prop := Relation.ReflTransGen Move s t

theorem Move.moves {s t : State} (h : Move s t) : Moves s t := Relation.ReflTransGen.single h
theorem Moves.refl (s : State) : Moves s s := Relation.ReflTransGen.refl
theorem Moves.trans {s t u : State} (h : Moves s t) (h' : Moves t u) : Moves s u :=
  Relation.ReflTransGen.trans h h'
theorem Moves.tail {s t u : State} (h : Moves s t) (h' : Move t u) : Moves s u :=
  Relation.ReflTransGen.tail h h'

/-- A fold whose every step, in a state that meets `P`, is a chain of moves that keeps `P`. -/
theorem Moves.foldl {α : Type} {f : State → α → State} {P : State → Prop}
    (hP : ∀ s x, P s → P (f s x)) (hf : ∀ s x, P s → Moves s (f s x)) (xs : List α) {s : State}
    (hs : P s) : Moves s (xs.foldl f s) := by
  induction xs generalizing s with
  | nil => exact .refl _
  | cons x xs ih => exact (hf s x hs).trans (ih (hP s x hs))

/-! ### Notices -/

theorem Moves.notify (s : State) (p : Port) (n : Notice) : Moves s (s.notify p n) := by
  rw [State.notify_eq]
  exact (Move.tell _).moves

theorem Moves.notifyOpt (s : State) (p : Option Port) (n : Notice) : Moves s (s.notifyOpt p n) := by
  rw [State.notifyOpt_eq]
  exact (Move.tell _).moves

theorem Moves.notifyBoth (s : State) (a b : Option Port) (n : Notice) :
    Moves s (s.notifyBoth a b n) := by
  rw [State.notifyBoth_eq]
  exact (Move.tell _).moves

/-! ### Leases -/

/-- R6: the end of the quiet interval. -/
theorem Moves.endQuiet {s : State} {u : UnitNo} (hquiet : (s.unit u).lease = .quiet) :
    Moves s (s.endQuiet u) := by
  cases hw : (s.unit u).wait with
  | nil =>
    rw [State.endQuiet_nil s u hw]
    exact (Move.freed u hquiet hw).moves
  | cons w rest =>
    rw [State.endQuiet_cons s u w rest hw]
    have hgrant := Move.grant u w.port w.period rest (.grantFirst _ w rest hw) (.inr hquiet)
    exact hgrant.moves.tail (.tell (s := s.granted u w.port w.period rest) _)

theorem Moves.endZeroQuiet {s : State} {u : UnitNo} (hquiet : (s.unit u).lease = .quiet) :
    Moves s (s.endZeroQuiet u) := by
  unfold State.endZeroQuiet
  split
  · exact .endQuiet hquiet
  · exact .refl _

/-- R4: the end of a quiet time of 0 writes no other unit. -/
theorem State.endZeroQuiet_unit_other {s : State} {u v : UnitNo} (h : v ≠ u) :
    (s.endZeroQuiet u).unit v = s.unit v := by
  unfold State.endZeroQuiet
  split
  · cases hw : (s.unit u).wait with
    | nil => rw [State.endQuiet_nil s u hw, State.setUnit_unit_ne _ _ _ _ h]
    | cons w rest =>
      rw [State.endQuiet_cons s u w rest hw]
      exact Four.get_set_ne _ _ _ _ h
  · rfl

theorem Moves.endZeroQuiets {us : List UnitNo} {s : State} (hnodup : us.Nodup)
    (hquiet : s.inQuiet us) : Moves s (s.endZeroQuiets us) := by
  have hlease : ∀ u ∈ us, (s.unit u).lease = .quiet := fun u hu => (hquiet u hu).1.1
  clear hquiet
  induction us generalizing s with
  | nil => exact .refl _
  | cons u us ih =>
    obtain ⟨hu, hus⟩ := List.nodup_cons.mp hnodup
    refine (Moves.endZeroQuiet (hlease u (List.mem_cons_self ..))).trans (ih hus fun v hv => ?_)
    rw [State.endZeroQuiet_unit_other fun heq => hu (by rwa [← heq])]
    exact hlease v (List.mem_cons_of_mem _ hv)

/-- R20: a drain of a unit whose legs are idle and empty, up to its quiet timer. -/
theorem Moves.beginDrain {s : State} {u : UnitNo} (h : s.unitDrained u = true) :
    Moves s (s.beginDrain u) := by
  rw [State.beginDrain_eq]
  exact (Move.leave u false (.inr h)).moves.tail (.tell _)

theorem Moves.beginDrainCheck (s : State) (u : UnitNo) : Moves s (s.beginDrainCheck u) := by
  unfold State.beginDrainCheck
  split
  next h => exact .beginDrain (of_decide_eq_true h).2
  next => exact .refl _

theorem State.beginDrain_lease (s : State) (u : UnitNo) :
    ((s.beginDrain u).unit u).lease = .quiet := by
  rw [State.beginDrain_eq]
  exact congrArg UnitRec.lease (Four.get_set_same ..)

theorem Moves.drainCheck (s : State) (u : UnitNo) : Moves s (s.drainCheck u) := by
  unfold State.drainCheck
  split
  next h =>
    exact (Moves.beginDrain (of_decide_eq_true h).2).trans (.endZeroQuiet (s.beginDrain_lease u))
  next => exact .refl _

theorem Moves.drainChecks (s : State) : Moves s s.drainChecks := by
  have hfold : Moves s (four.foldl (fun s u => s.beginDrainCheck u) s) :=
    .foldl (P := fun _ => True) (fun _ _ _ => trivial) (fun s u _ => .beginDrainCheck s u) four
      trivial
  refine hfold.trans (.endZeroQuiets (four_nodup.filter _) ?_)
  rw [State.beginDrainChecks_eq]
  exact s.drainBegun_inQuiet

/-- R5: an abort leaves the lease, tells the former holder, and starts the quiet timer. -/
theorem Moves.abort (s : State) (u : UnitNo) (n : Option Notice) : Moves s (s.abort u n) := by
  unfold State.abort
  dsimp only
  generalize hs₁ : (s.setUnit u (s.unit u).toQuiet).stopUnit u = s₁
  have hleft (P : Four PortRec) : ({ s₁ with ports := P } : State).loadQuiet u =
      { s with
        units := s.units.set u (s.quietRec u), stages := s.stagesForced u
        seqs := s.seqsFlushed u, ports := P } := by
    subst hs₁
    simp [State.loadQuiet, State.stopUnit_eq, State.setUnit, State.unit, State.quietRec,
      State.stagesForced, State.seqsFlushed, State.unitOf, State.legEntry, State.unitEntry]
    exact ⟨rfl, rfl⟩
  have hports : s₁.ports = s.ports := by
    subst hs₁
    rfl
  have htime : s₁.time = s.time := by
    subst hs₁
    rfl
  have hleave := (Move.leave (s := s) u true (.inl rfl)).moves
  have hlease (P : Four PortRec) : ((({ s₁ with ports := P } : State).loadQuiet u).unit u).lease =
      .quiet := by
    rw [hleft]
    exact congrArg UnitRec.lease (Four.get_set_same ..)
  cases n with
  | none =>
    refine Moves.trans ?_ (.endZeroQuiet (hlease s₁.ports))
    rw [hleft, hports]
    exact hleave
  | some n =>
    dsimp only
    rw [State.notifyOpt_eq]
    refine Moves.trans ?_ (.endZeroQuiet (hlease _))
    rw [hleft, State.told_congr s s₁ _ hports htime]
    exact hleave.tail (.tell _)

theorem Moves.finishLease {s : State} {u : UnitNo} (hheld : (s.unit u).lease = .held) :
    Moves s (s.finishLease u) := (Move.finish u hheld).moves.trans (.drainCheck _ u)

theorem Moves.leaveWait (s : State) (u : UnitNo) (p : Port) : Moves s (s.leaveWait u p) :=
  (Move.unit u _ (.filterWait _ _) rfl).moves

theorem Moves.resetUnitFor (s : State) (p : Port) (u : UnitNo) : Moves s (s.resetUnitFor p u) := by
  obtain h | h | h := s.resetUnitFor_cases p u <;> rw [h]
  · exact .refl _
  · exact .leaveWait s u p
  · exact (Moves.leaveWait s u p).trans (.abort _ u none)

theorem Moves.leftBy (s : State) (p : Port) : Moves s (s.leftBy p) := by
  have hfold : Moves s (four.foldl (fun s u => s.resetUnitFor p u) s) :=
    .foldl (P := fun _ => True) (fun _ _ _ => trivial) (fun s u _ => .resetUnitFor s p u) four
      trivial
  refine hfold.trans ?_
  unfold State.leftBy
  generalize four.foldl (fun s u => s.resetUnitFor p u) s = s
  unfold State.dropLockOf
  split
  next h => exact (Move.unlock fun hnone => by simp [hnone] at h).moves
  next => exact .refl _

/-- R3, R7, R11: the tick at a unit. -/
theorem Moves.tickUnit (s : State) (u : UnitNo) : Moves s (s.tickUnit u) := by
  unfold State.tickUnit
  dsimp only
  split
  · refine Moves.trans (Move.unit u _ ?_ ?_).moves (.notifyOpt _ _ _)
    · exact (UnitMove.tick _).trans (.disarm _)
    · rfl
  · exact (Move.unit u _ (.tick _) rfl).moves

/-! ### Trips -/

theorem Moves.strike {s : State} (u : UnitNo) (c : Cause) (leg : Option Leg) (hcan : s.canTrip) :
    Moves s (s.strike u c leg) := by
  rw [State.strike_eq]
  exact (Move.strike u c leg hcan).moves.tail (.tell _)

theorem Moves.tripRequest {s : State} (u : UnitNo) (c : Cause) (leg : Option Leg)
    (hcan : s.canTrip) : Moves s (s.tripRequest u c leg) := by
  unfold State.tripRequest
  split
  next h => exact (Move.later u c h).moves
  next => exact (Moves.strike u c leg hcan).trans (.drainCheck _ u)

theorem Moves.externalRequest {s : State} (u : UnitNo) (hrun : s.setup.phase = .run) :
    Moves s (s.externalRequest u) := by
  unfold State.externalRequest
  split
  · split
    next h => exact (Move.later u .external h).moves
    next => exact (Moves.strike u _ _ (.inl hrun)).trans (.beginDrainCheck _ u)
  · exact .refl _

theorem Moves.tripAll {s : State} (hrun : s.setup.phase = .run) : Moves s s.tripAll := by
  have hfold : Moves s (four.foldl (fun s u => s.externalRequest u) s) :=
    .foldl (P := fun s => s.setup.phase = .run) (fun s u h => by simpa using h)
      (fun s u h => .externalRequest u h) four hrun
  refine hfold.trans (.endZeroQuiets (four_nodup.filter _) ?_)
  rw [State.externalRequests_eq]
  exact s.requested_inQuiet

/-! ### Legs -/

/-- A change of a leg that is awake or busy to one that is awake. -/
theorem LegMove.of_awake {s : State} {l : Leg} {q : LegSeq} {st : Stage}
    (hold : (s.stage l).state ≠ .forced ∨ (s.seq l).active ≠ none) (hnew : st.state ≠ .forced)
    (hqueue : (s.seq l).lawful → q.lawful)
    (hidle : (s.seq l).idleEmpty = true → q.idleEmpty = true) : LegMove s l q st where
  awake _ := .inr hold
  forced h := absurd h hnew
  queue := hqueue
  idle := .inr hidle

/-- A change of the sequencer alone. -/
theorem Moves.setSeq {s : State} {l : Leg} {q : LegSeq}
    (hactive : (s.seq l).active = none → q.active = none)
    (hqueue : (s.seq l).lawful → q.lawful)
    (hidle : (s.seq l).idleEmpty = true → q.idleEmpty = true) : Moves s (s.setSeq l q) := by
  have hmove : LegMove s l q (s.stage l) :=
    ⟨fun h => .inr (.inl h), fun h => ⟨h, hactive, id⟩, hqueue, .inr hidle⟩
  have h := (Move.leg l q (s.stage l) hmove).moves
  rwa [← State.setSeq_stage s l q l, State.setStage_stage_self] at h

/-- A change of the stage alone. -/
theorem Moves.setStage {s : State} {l : Leg} {st : Stage}
    (hstate : st.state = .forced ↔ (s.stage l).state = .forced)
    (hoff : (s.stage l).state = .forced → (s.stage l).gh = false ∧ (s.stage l).gl = false →
      st.gh = false ∧ st.gl = false) : Moves s (s.setStage l st) := by
  have hmove : LegMove s l (s.seq l) st :=
    ⟨fun h => .inr (.inl fun h' => h (hstate.mpr h')),
      fun h => ⟨hstate.mp h, id, hoff (hstate.mp h)⟩, id, .inr id⟩
  have h := (Move.leg l (s.seq l) st hmove).moves
  rwa [State.setSeq_seq_self] at h

@[simp] theorem takeStage_awake (e : LegEntry) (held : Bool) (a : Active) (st : Stage) :
    (takeStage e held a st).state ≠ .forced := by
  unfold takeStage
  dsimp only
  split
  · simp
  · split
    · split <;> simp
    · simp

@[simp] theorem openStage_awake (e : LegEntry) (held : Bool) (a : Active) (st : Stage) :
    (openStage e held a st).state ≠ .forced := by
  unfold openStage
  split <;> simp

/-- R57: a gate that is off stays off when nothing asks for one. -/
theorem settleStage_off {e : LegEntry} {held : Bool} {st : Stage}
    (hforced : st.state = .forced) (hoff : st.gh = false ∧ st.gl = false) :
    settleStage e held st = st := by
  obtain ⟨hgh, hgl⟩ := hoff
  have hwanted : wantedGates e held st = (false, false) := by
    unfold wantedGates
    rw [hforced]
  unfold settleStage
  dsimp only
  rw [hwanted]
  simp [turnOffs, turnOns, turnOffGH_off hgh, turnOffGL_off hgl]

/-- The waveform events of a leg neither force it nor free it. -/
theorem WaveAct.forced_iff {f : LegEntry → Bool → Stage → Stage} (hf : WaveAct f) (e : LegEntry)
    (held : Bool) (st : Stage) : (f e held st).state = .forced ↔ st.state = .forced := by
  cases hf with
  | judge final => unfold judgeStage; split <;> simp [*]
  | change => simp
  | release => simp
  | lead => unfold leadStage; split <;> simp [*]

theorem WaveAct.off {f : LegEntry → Bool → Stage → Stage} (hf : WaveAct f) (e : LegEntry)
    (held : Bool) {st : Stage} (hforced : st.state = .forced)
    (hoff : st.gh = false ∧ st.gl = false) :
    (f e held st).gh = false ∧ (f e held st).gl = false := by
  cases hf with
  | judge final => simpa [judgeStage, hforced] using hoff
  | change => rwa [settleStage_off hforced hoff]
  | release => simpa [releaseStage, wantedGates, hforced, turnOns] using hoff
  | lead => simpa [leadStage, hforced] using hoff

theorem Moves.wave {f : LegEntry → Bool → Stage → Stage} (hf : WaveAct f) (s : State) (l : Leg) :
    Moves s (s.onStage l f) :=
  .setStage (hf.forced_iff _ _ _) fun hforced hoff => hf.off _ _ hforced hoff

/-- R35: a start gate opens. -/
theorem Moves.openGate (s : State) (l : Leg) : Moves s (s.openGate l) := by
  cases ha : (s.seq l).active with
  | none =>
    rw [State.openGate_idle s l ha]
    exact .refl _
  | some a =>
    rw [State.openGate_active s l a ha]
    refine (Move.leg l _ _ (.of_awake (.inr ?_) (openStage_awake _ _ _ _) ?_ ?_)).moves
    · simp [ha]
    · exact fun h => ⟨h.1, nofun⟩
    · simp [LegSeq.idleEmpty, ha]

theorem Moves.offerEdge (s : State) (l : Leg) : Moves s (s.offerEdge l) := by
  unfold State.offerEdge
  split
  · exact .refl _
  next a ha =>
    split
    · split
      · refine .setSeq ?_ (fun h => ⟨h.1, nofun⟩) ?_
        · simp [ha]
        · simp [LegSeq.idleEmpty, ha]
      · exact .openGate s l
    · exact .refl _
    · exact .refl _

theorem LegSeq.flushed_lawful (q : LegSeq) : q.flushed.lawful := ⟨Nat.zero_le _, fun _ => rfl⟩

/-- R47: FLUSH ALL. -/
theorem Moves.flushAll (s : State) (l : Leg) : Moves s (s.flushAll l) := by
  unfold State.flushAll
  dsimp only
  split
  next hcut =>
    refine (Move.leg l (s.seq l).flushed _ (.of_awake (.inr ?_) ?_ ?_ ?_)).moves
    · exact Option.isSome_iff_ne_none.mp hcut
    · simp [stopStage]
    · exact fun _ => (s.seq l).flushed_lawful
    · exact fun _ => rfl
  next =>
    exact .setSeq (fun _ => rfl) (fun _ => (s.seq l).flushed_lawful) (fun _ => rfl)

theorem Moves.flushPending (s : State) (l : Leg) : Moves s (s.setSeq l (s.seq l).flushPending) := by
  refine .setSeq id (fun _ => ⟨Nat.zero_le _, fun _ => rfl⟩) fun h => ?_
  obtain ⟨hidle, -⟩ := Bool.and_eq_true_iff.mp h
  exact Bool.and_eq_true_iff.mpr ⟨hidle, rfl⟩

/-- R34: the head is taken from a sequencer just written. -/
theorem State.setSeq_take (s : State) (l : Leg) {q : LegSeq} {g : Segment} {rest : List Segment}
    (h : q.queue = g :: rest) :
    (s.setSeq l q).take l =
      (s.setSeq l
        { q with queue := rest, active := some (activeOf (s.legEntry l) s.time.stamp g) }).setStage l
        (takeStage (s.legEntry l) (s.unitHeld l) (activeOf (s.legEntry l) s.time.stamp g)
          (s.stage l)) := by
  rw [State.take_cons _ l g rest (by simpa using h), State.setSeq_seq_same]
  have hseqs : (s.setSeq l q).seqs = s.seqs.set l q := rfl
  rw [hseqs, Four.set_set]
  rfl

/-- R40, R43: a segment is appended. -/
theorem Moves.append {s : State} {l : Leg} (g : Segment) (hdrive : s.drivePermitted l = true)
    (hroom : (s.seq l).queue.length < 16) : Moves s (s.appendSegment l g) := by
  have hlength : ((s.seq l).queue ++ [g]).length ≤ 16 := by simpa using hroom
  unfold State.appendSegment
  dsimp only
  split
  next hidle =>
    obtain ⟨g', rest, hq⟩ : ∃ g' rest, (s.seq l).queue ++ [g] = g' :: rest :=
      List.exists_cons_of_ne_nil (by simp)
    rw [State.setSeq_take s l hq]
    refine (Move.leg l _ _ ⟨fun _ => .inl hdrive, fun h => absurd h (takeStage_awake _ _ _ _),
      fun _ => ?_, .inl hdrive⟩).moves
    rw [hq, List.length_cons] at hlength
    exact ⟨by simp only; omega, nofun⟩
  next hbusy =>
    have hactive : (s.seq l).active ≠ none := by simpa using hbusy
    exact .setSeq id (fun _ => ⟨hlength, fun h => absurd h hactive⟩)
      fun h => absurd h (by simpa [LegSeq.idleEmpty] using fun h => absurd h hactive)

theorem Moves.queueLowCheck (s : State) (l : Leg) (n : Nat) : Moves s (s.queueLowCheck l n) := by
  unfold State.queueLowCheck
  dsimp only
  split
  · have hdisarm : Moves s (s.setSeq l { s.seq l with lowArmed := false }) := .setSeq id id id
    exact hdisarm.trans (.notifyOpt _ _ _)
  · exact .refl _

theorem Moves.tellDone (s : State) (l : Leg) (a : Active) : Moves s (s.tellDone l a) := by
  unfold State.tellDone
  split
  · exact .notifyOpt _ _ _
  · exact .refl _

/-- R39: a segment ends. -/
theorem Moves.endSegment {s : State} {l : Leg} (a : Active) (hbusy : (s.seq l).active ≠ none) :
    Moves s (s.endSegment l a) := by
  have hseq : (s.tellDone l a).seq l = s.seq l := s.tellDone_seq l a l
  have hbusy' : ((s.tellDone l a).seq l).active ≠ none := hseq ▸ hbusy
  have hnotIdle : ((s.tellDone l a).seq l).idleEmpty ≠ true := by
    simpa [LegSeq.idleEmpty] using fun h => absurd h hbusy'
  refine (Moves.tellDone s l a).trans ?_
  cases hq : (s.seq l).queue with
  | nil =>
    rw [State.endSegment_nil s l a hq]
    refine Moves.trans (Move.leg l (s.seq l).ended
      (endStage ((s.tellDone l a).legEntry l) ((s.tellDone l a).unitHeld l)
        ((s.tellDone l a).stage l)) (.of_awake (.inr hbusy') ?_ ?_ ?_)).moves ?_
    · simp
    · exact fun _ => ⟨by simp [LegSeq.ended, hq], fun _ => hq⟩
    · exact fun h => absurd h hnotIdle
    · exact (Moves.notifyOpt _ _ _).trans (.drainCheck _ _)
  | cons g rest =>
    rw [State.endSegment_cons s l a g rest hq]
    refine Moves.trans ?_ (.queueLowCheck _ _ _)
    generalize s.tellDone l a = s₁ at *
    rw [State.setSeq_take s₁ l (q := { s.seq l with active := none }) hq]
    refine (Move.leg l _ _ (.of_awake (.inr hbusy') (takeStage_awake _ _ _ _) (fun h => ?_)
      fun h => absurd h hnotIdle)).moves
    obtain ⟨hlength, -⟩ := h
    rw [hseq, hq, List.length_cons] at hlength
    exact ⟨by simp only; omega, nofun⟩

/-- R36: a period ends. -/
theorem Moves.endPeriod {s : State} {l : Leg} {a : Active} {y : Layout}
    (hactive : (s.seq l).active = some a) :
    Moves s (s.endPeriod l a y) := by
  unfold State.endPeriod
  dsimp only
  generalize ({ a with completed := _ } : Active) = a'
  generalize hq : ({ s.seq l with active := _, cutSeen := _, escalation := _ } : LegSeq) = q
  have hqa : q.active = some a' := hq ▸ rfl
  have hqq : q.queue = (s.seq l).queue := hq ▸ rfl
  have hcount : Moves s (s.setSeq l q) := by
    refine .setSeq (by simp [hactive]) (fun h => ⟨hqq ▸ h.1, by simp [hqa]⟩) ?_
    simp [LegSeq.idleEmpty, hactive]
  refine hcount.trans ?_
  split
  · exact .endSegment a' (by simp [hqa])
  · refine (Move.leg l _ _ (.of_awake (.inr ?_) ?_ (fun h => ?_) ?_)).moves
    · simp [hqa]
    · simp
    · simpa [hqa, LegSeq.lawful] using h.1
    · simp [LegSeq.idleEmpty, hqa]

/-! ### Sense inputs -/

theorem LegSeq.cut_active (q : LegSeq) (n : SenseNo) : (q.cut n).active = q.active := by
  unfold LegSeq.cut
  split <;> rfl

theorem LegSeq.cut_queue (q : LegSeq) (n : SenseNo) : (q.cut n).queue = q.queue := by
  unfold LegSeq.cut
  split <;> rfl

theorem cutStage_forced_iff (e : LegEntry) (st : Stage) :
    (cutStage e st).state = .forced ↔ st.state = .forced := by
  unfold cutStage
  split <;> simp [*]

/-- R69, R71, R73: a CYCLE activation. -/
theorem Moves.cycleCut {s : State} (n : SenseNo) (l : Leg) (hcan : s.canTrip) :
    Moves s (s.cycleCut n l) := by
  unfold State.cycleCut
  split
  · dsimp only
    have hcut : Moves s (s.onStage l fun e _ st => cutStage e st) := by
      refine .setStage (cutStage_forced_iff _ _) fun hforced hoff => ?_
      simpa [cutStage, hforced] using hoff
    have hcount : Moves s ((s.onStage l fun e _ st => cutStage e st).setSeq l
        (((s.onStage l fun e _ st => cutStage e st).seq l).cut n)) := by
      refine hcut.trans (.setSeq ?_ ?_ ?_)
      · simp [LegSeq.cut_active]
      · simp [LegSeq.lawful, LegSeq.cut_active, LegSeq.cut_queue]
      · simp [LegSeq.idleEmpty, LegSeq.cut_active, LegSeq.cut_queue]
    split
    · exact hcount.trans (.tripRequest _ _ _ hcan)
    · exact hcount
  · exact .refl _

theorem Moves.activate {s : State} {n : SenseNo} (harmed : (s.sense n).armed = true) :
    Moves s (s.activate n) := by
  have hcan : s.canTrip := .inr ⟨n, harmed⟩
  unfold State.activate
  dsimp only
  split
  · exact .refl _
  · split
    · have hsense : Move s (s.setSenseRec n { s.sense n with rearm := false }) :=
        .sense n _ rfl fun h => by simp [harmed] at h
      exact hsense.moves.trans (.notifyBoth _ _ _ _)
    · exact .refl _
  · exact .cycleCut n _ hcan
  · exact .tripRequest _ _ _ hcan

/-- A judged sample arms and disarms nothing. -/
theorem judgeSample_armed (e : SenseEntry) (v : GateView) (active : Bool) (r : SenseRec) :
    (judgeSample e v active r).1.armed = r.armed := by
  unfold judgeSample
  split <;> rfl

@[simp] theorem rearmed_armed (active : Bool) (r : SenseRec) :
    (rearmed active r).armed = r.armed := by
  unfold rearmed
  split <;> rfl

/-- R77, R79 to R83: a sample. -/
theorem Moves.sample (s : State) (n : SenseNo) (v : Level) : Moves s (s.sample n v) := by
  unfold State.sample
  dsimp only
  split
  next harmed =>
    have hjudged (active : Bool) (w : GateView) : (judgeSample (s.senseEntry n) w active
        (rearmed active { s.sense n with raw := v })).1.armed = true := by
      rw [judgeSample_armed, rearmed_armed]
      exact harmed
    have hsense (active : Bool) (w : GateView) : Move s (s.setSenseRec n (judgeSample
        (s.senseEntry n) w active (rearmed active { s.sense n with raw := v })).1) :=
      .sense n _ ((hjudged active w).trans harmed.symm) fun h => by simp [hjudged] at h
    split
    · refine (hsense _ _).moves.trans (.activate ?_)
      rw [State.setSenseRec_sense_same]
      exact hjudged _ _
    · exact (hsense _ _).moves
  next => exact (Move.sense n { s.sense n with raw := v } rfl fun _ => rfl).moves

/-! ### Every act -/

theorem Moves.leaveGood (s : State) : Moves s s.leaveGood := by
  rw [State.leaveGood_eq]
  refine Moves.trans ?_ (.drainChecks _)
  exact (Move.powerDown (s := s)).moves.tail (.tell _)

theorem Moves.enterGood {s : State} (h : s.supply.state = .settling) : Moves s s.enterGood := by
  unfold State.enterGood
  rw [State.broadcast_eq]
  exact (Move.powerUp (by simp [h])).moves.tail (.tell _)

/-- R122: the timers of a tick, the Timebase apart. -/
theorem Moves.ticked (s : State) : Moves { s with time := s.ticked.time } s.ticked := by
  have htime : s.ticked.time = { s.time with ticksDue := s.time.ticksDue - 1 } := by
    simp [State.ticked, four]
  rw [htime]
  unfold State.ticked
  generalize ({ s.time with ticksDue := s.time.ticksDue - 1 } : Timebase) = T
  have hlock : Moves { s with time := T } { s with time := T, setup := s.setup.tick } :=
    (Move.lockTick (s := { s with time := T })).moves
  have hsupply : Moves { s with time := T, setup := s.setup.tick }
      { s with time := T, setup := s.setup.tick, supply := s.supply.tick } := by
    refine (Move.supply (s := { s with time := T, setup := s.setup.tick }) s.supply.tick ?_
      ?_).moves
    all_goals
      unfold Supply.tick
      split <;> exact id
  exact (hlock.trans hsupply).trans (.foldl (P := fun _ => True) (fun _ _ _ => trivial)
    (fun s u _ => .tickUnit s u) four trivial)

/-- R4: one microsecond of the four quiet timers. -/
theorem Moves.quietSteps (s : State) : Moves { s with time := s.time.step }
    ((s.setUnits (s.units.mapIdx fun _ r => r.quietStep)).setTime s.time.step) := by
  have hfold : (s.setUnits (s.units.mapIdx fun _ r => r.quietStep)).setTime s.time.step =
      four.foldl (fun s u => s.setUnit u (s.unit u).quietStep) { s with time := s.time.step } := rfl
  rw [hfold]
  refine .foldl (P := fun _ => True) (fun _ _ _ => trivial) (fun s u _ => ?_) four trivial
  refine (Move.unit u _ (.quietStep _) ?_).moves
  unfold UnitRec.quietStep
  split <;> rfl

/-- R146, R103: COMMIT. -/
theorem Moves.commit {s : State} (hsetup : s.setup.phase = .setup) :
    Moves s s.enterRun.faultCheck := by
  refine (Move.enterRun hsetup).moves.trans ?_
  unfold State.faultCheck
  split
  · exact .tripAll rfl
  · exact .refl _

/-- What an act does, the Timebase apart, is a chain of elementary changes. -/
theorem Act.moves {s t : State} (h : Act s t) : Moves { s with time := t.time } t := by
  cases h
  case edge T =>
    have htime : (s.setTime T).syncEdge.time = { T with syncCount := T.syncCount + 1 } := by
      simp [State.syncEdge, four]
    rw [htime]
    exact .foldl (P := fun _ => True) (fun _ _ _ => trivial) (fun s l _ => .offerEdge s l) four
      trivial
  case timestampStep => exact .quietSteps s
  case tick => exact .ticked s
  case clock T => exact .refl _
  case wu => exact (Move.wu (s := { s with time := _ })).moves
  case spell hrun =>
    rw [show ({ s with faultN := .low } : State).tripAll.time = s.time by simp]
    exact (Move.sampleFaultN .low).moves.trans (.tripAll hrun)
  case leaveGood =>
    rw [show s.leaveGood.time = s.time by simp]
    exact .leaveGood s
  case enterGood hs =>
    rw [show s.enterGood.time = s.time by simp]
    exact .enterGood hs
  case rest => exact .refl _
  case sampleFaultN v => exact (Move.sampleFaultN v).moves
  case supply v hs hv => exact (Move.supply v (fun h => absurd h hv) fun h => absurd h hs).moves
  case lock p hsetup => exact (Move.lock p hsetup).moves
  case unlock h => exact (Move.unlock h).moves
  case board p b hsetup hmap =>
    exact (Move.board b hsetup hmap).moves.tail (.lock (s := s.setBoard b) p hsetup)
  case unitMap p m hsetup =>
    exact (Move.unitMap m hsetup).moves.tail (.lock (s := s.setUnitMap m) p hsetup)
  case commit hsetup =>
    rw [show s.enterRun.faultCheck.time = s.time by
      unfold State.faultCheck
      split <;> simp [State.enterRun]]
    exact .commit hsetup
  case leave p =>
    rw [show (s.leftBy p).time = s.time by simp [State.leftBy, four]]
    exact .leftBy s p
  case claim u p ms hfree =>
    rw [show (s.grant u p ms).time = s.time by simp, State.grant_eq]
    exact (Move.grant u p ms _ (.grantFree _ p ms hfree) (.inl hfree)).moves
  case joinWait u w hfree howner hwait =>
    exact (Move.unit u _ (.join _ w hfree howner hwait) rfl).moves
  case dropWaits u keep => exact (Move.unit u _ (.filterWait _ keep) rfl).moves
  case renew u hheld => exact (Move.unit u _ (.renew _ hheld) rfl).moves
  case finish u hheld =>
    rw [show (s.finishLease u).time = s.time by simp]
    exact .finishLease hheld
  case abort u n =>
    rw [show (s.abort u n).time = s.time by simp]
    exact .abort s u n
  case endQuiet u hquiet =>
    rw [show (s.endQuiet u).time = s.time by simp]
    exact .endQuiet hquiet
  case append l g hdrive hroom =>
    rw [show (s.appendSegment l g).time = s.time by simp]
    exact .append g hdrive hroom
  case flushPending l => exact .flushPending s l
  case flushAll l =>
    rw [show (s.flushAll l).time = s.time by simp]
    exact .flushAll s l
  case clearTrip u htripped =>
    rw [show (s.clearTrip u).time = s.time by simp]
    exact (Move.clearTrip u htripped).moves
  case openGate l =>
    rw [show (s.openGate l).time = s.time by simp]
    exact .openGate s l
  case endPeriod l a y pos hactive _ =>
    rw [show (s.endPeriod l a y).time = s.time by simp]
    exact .endPeriod hactive
  case wave l f hf => exact .wave hf s l
  case sample n v =>
    rw [show (s.sample n v).time = s.time by simp]
    exact .sample s n v

end Sys2Proof.Machine
end

section
/-! PROOFS. The laws of the whole part. Each elementary move of `Move` keeps each law, and so does
every step; O3, O54 to O59 and O60. -/

namespace Sys2Proof.Machine

/-! ### From moves to steps -/

/-- A law kept by every move is kept by every chain of moves. -/
theorem Moves.keeps {L : State → Prop} (hmove : ∀ s t, L s → Move s t → L t) {s t : State}
    (hs : L s) (h : Moves s t) : L t := by
  replace h : Relation.ReflTransGen Move s t := h
  induction h with
  | refl => exact hs
  | tail _ hlast ih => exact hmove _ _ ih hlast

/-- A law that reads neither the port records nor the Timebase, and that every move keeps, is kept by
every row. -/
theorem Row.keeps {L : State → Prop} (hports : ∀ s P, L s → L { s with ports := P })
    (htime : ∀ s T, L s → L { s with time := T }) (hmove : ∀ s t, L s → Move s t → L t)
    {s t : State} (hs : L s) (h : Row s t) : L t := by
  obtain ⟨s₁, t₁, before, act, after⟩ := h
  have hs₁ : L s₁ := before.frame ▸ hports s _ hs
  have ht₁ : L t₁ := act.moves.keeps hmove (htime s₁ _ hs₁)
  exact after.frame ▸ hports t₁ _ ht₁

/-- Such a law, when the resets establish it, is kept by every step. -/
theorem step_keeps_law {L : State → Prop} (hpending : ∀ s q, L s → L { s with pending := q })
    (hports : ∀ s P, L s → L { s with ports := P })
    (htime : ∀ s T, L s → L { s with time := T }) (hmove : ∀ s t, L s → Move s t → L t)
    (hreset : ∀ (s : State) c cs, L (s.resetBy c cs)) {s t : State} (hs : L s)
    (h : step s = .next t) : L t :=
  step_keeps hpending hreset (fun _ _ => Row.keeps hports htime hmove) hs h

/-! ### The queue of waiting rows, and the Timebase -/

theorem Move.pending {s t : State} (h : Move s t) : t.pending = s.pending := by
  cases h
  case powerUp => exact State.restoreAll_pending _
  case clearTrip => exact State.clearTrip_pending _ _
  all_goals rfl

theorem Move.time {s t : State} (h : Move s t) : t.time = s.time := by
  cases h
  case powerUp => exact State.restoreAll_time _
  case clearTrip => exact State.clearTrip_time _ _
  all_goals rfl

theorem Row.pending {s t : State} (h : Row s t) : t.pending = s.pending :=
  Row.keeps (L := fun t => t.pending = s.pending) (fun _ _ => id) (fun _ _ => id)
    (fun _ _ hs h => h.pending.trans hs) rfl h

/-- Settles O3: a row is a reset, which keeps the queue by its definition, or a chain of moves, none of
which writes the queue; and every row of `exec` answers a next state. -/
theorem everyRowAnswersANextStateAndKeepsTheQueue :
    Obligations.EveryRowAnswersANextStateAndKeepsTheQueue := by
  intro i s
  obtain ⟨t, ht⟩ : ∃ t, exec i s = .next t := by
    cases i
    all_goals exact ⟨_, rfl⟩
  refine ⟨t, ht, ?_⟩
  obtain ⟨cs, ⟨-, rfl⟩ | ⟨-, rfl⟩⟩ | hrow := exec_cases ht
  · rfl
  · rfl
  · exact hrow.pending

/-! ### The Setup Controller (R131, R135) -/

/-- The inactivity timer of a lock held does not grow. -/
theorem Setup.tick_lockLaw {c : Setup} (hrun : c.phase = .run → c.holder = none)
    (hfree : c.holder = none → c.inactivity = 0) (hmax : c.inactivity ≤ 2000) :
    (c.tick.phase = .run → c.tick.holder = none) ∧
      (c.tick.holder = none → c.tick.inactivity = 0) ∧ c.tick.inactivity ≤ 2000 := by
  unfold Setup.tick
  split
  next hheld =>
    refine ⟨hrun, fun hnone => ?_, (Nat.sub_le ..).trans hmax⟩
    simp [show c.holder = none from hnone] at hheld
  next => exact ⟨hrun, hfree, hmax⟩

theorem Move.keeps_lockLaw {s t : State} (hs : s.lockLaw) (h : Move s t) : t.lockLaw := by
  cases h
  case lock p hsetup => exact ⟨fun hrun => by simp [hsetup] at hrun, nofun, le_rfl⟩
  case unlock => exact ⟨fun _ => rfl, fun _ => rfl, Nat.zero_le _⟩
  case lockTick =>
    obtain ⟨hrun, hfree, hmax⟩ := hs
    exact Setup.tick_lockLaw hrun hfree hmax
  case enterRun => exact ⟨fun _ => rfl, fun _ => rfl, Nat.zero_le _⟩
  case powerUp => simpa [State.lockLaw] using hs
  case clearTrip => simpa [State.lockLaw] using hs
  all_goals exact hs

/-- R133: in RUN with no lock held, a move leaves the Setup Controller alone. -/
theorem Move.setup_of_run {s t : State} (hrun : s.setup.phase = .run)
    (hfree : s.setup.holder = none) (h : Move s t) : t.setup = s.setup := by
  cases h
  case lock p hsetup => simp [hrun] at hsetup
  case unlock h => exact absurd hfree h
  case lockTick => simp [Setup.tick, hfree]
  case board b hsetup _ => simp [hrun] at hsetup
  case unitMap m hsetup => simp [hrun] at hsetup
  case enterRun hsetup => simp [hrun] at hsetup
  case powerUp => exact State.restoreAll_setup _
  case clearTrip => exact State.clearTrip_setup _ _
  all_goals rfl

/-- Settles O58: in RUN no port holds the lock, and then no move writes the Setup Controller. -/
theorem theBoardIsFrozenInRun : Obligations.TheBoardIsFrozenInRun := by
  intro s t hrun hlock hstep
  have hfree : s.setup.holder = none := hlock.1 hrun
  obtain ⟨q, hrow | ⟨i, hpending, cs, ⟨rfl, rfl⟩ | ⟨rfl, rfl⟩⟩⟩ := step_cases hstep
  · left
    refine Row.keeps (L := fun t => t.setup = s.setup) (s := { s with pending := q })
      (fun _ _ => id) (fun _ _ => id) (fun a b ha h => ?_) rfl hrow
    rw [h.setup_of_run (by rw [ha, hrun]) (by rw [ha, hfree]), ha]
  · exact .inr ⟨⟨cs, q, .inl hpending⟩, rfl⟩
  · exact .inr ⟨⟨cs, q, .inr hpending⟩, rfl⟩

/-! ### The sense inputs (R78, R93) -/

theorem Setup.tick_phase (c : Setup) : c.tick.phase = c.phase := by
  unfold Setup.tick
  split <;> rfl

theorem Move.keeps_senseLaw {s t : State} (hs : s.senseLaw) (h : Move s t) : t.senseLaw := by
  cases h
  case lockTick =>
    intro n
    have hn := hs n
    rw [← s.setup.tick_phase, State.senseEntry, ← s.setup.tick_board] at hn
    exact hn
  case board b hsetup hmap =>
    refine fun n => ⟨fun harmed => ?_, (hs n).2⟩
    obtain ⟨hrun, -⟩ := (hs n).1 harmed
    simp [hsetup] at hrun
  case enterRun hsetup =>
    intro n
    have hsense : s.enterRun.sense n = armSense (s.senseEntry n) (s.sense n) :=
      Eight.get_mapIdx ..
    rw [hsense]
    exact ⟨fun harmed => ⟨rfl, of_decide_eq_true harmed⟩, fun _ => ⟨rfl, rfl, rfl⟩⟩
  case sense n r harmed hidle =>
    intro m
    rw [State.setSenseRec_sense]
    split
    next hm =>
      subst hm
      refine ⟨fun h => (hs m).1 (harmed ▸ h), fun h => ?_⟩
      rw [hidle h]
      exact (hs m).2 (harmed ▸ h)
    next => exact hs m
  case powerUp => simpa [State.senseLaw, State.sense, State.senseEntry] using hs
  case clearTrip => simpa [State.senseLaw, State.sense, State.senseEntry] using hs
  all_goals exact hs

/-- Settles O59: each move keeps each of the two laws by itself. -/
theorem everyStepKeepsTheLockAndSenseLaws : Obligations.EveryStepKeepsTheLockAndSenseLaws := by
  intro s t hlock hsense hstep
  have hresetLock : State.reset.lockLaw := by decide
  have hresetSense : State.reset.senseLaw := by decide
  exact ⟨step_keeps_law (L := State.lockLaw) (fun _ _ => id) (fun _ _ => id) (fun _ _ => id)
      (fun _ _ => Move.keeps_lockLaw) (fun _ _ _ => hresetLock) hlock hstep,
    step_keeps_law (L := State.senseLaw) (fun _ _ => id) (fun _ _ => id) (fun _ _ => id)
      (fun _ _ => Move.keeps_senseLaw) (fun _ _ _ => hresetSense) hsense hstep⟩

/-! ### The unit records (R2, R6, R10) -/

/-- A move of the part moves each unit record. -/
theorem Move.unitMove {s t : State} (h : Move s t) (v : UnitNo) :
    UnitMove (s.unit v) (t.unit v) := by
  have hset {u : UnitNo} {r : UnitRec} (hr : UnitMove (s.unit u) r) :
      UnitMove (s.unit v) ((s.units.set u r).get v) := by
    rw [Four.get_set]
    split
    next hv => exact hv ▸ hr
    next => exact .refl _
  have hreset (keep : UnitNo → Bool) :
      UnitMove (s.unit v) ((s.units.mapIdx fun u r => if keep u then r else .reset).get v) := by
    rw [Four.get_mapIdx]
    split
    · exact .refl _
    · exact .reset _
  cases h
  case unitMap m hsetup => exact hreset _
  case enterRun =>
    change UnitMove (s.unit v) (Four.get (Four.mapIdx ..) v)
    rw [Four.get_mapIdx]
    split
    · exact .reset _
    · exact .refl _
  case unit u r hr _ => exact hset hr
  case freed u hquiet hwait => exact hset (.freed _ hquiet hwait)
  case grant u p ms rest hr _ => exact hset hr
  case finish u hheld => exact hset (.toReleasing _ hheld)
  case leave u flush _ => exact hset (.toQuiet _ _)
  case powerUp => simpa [State.unit] using UnitMove.refl _
  case clearTrip => simpa [State.unit] using UnitMove.refl _
  all_goals exact .refl _

/-- Settles O56: each move moves each unit record, and every such move keeps the record's law. -/
theorem everyStepKeepsTheLeaseLaw : Obligations.EveryStepKeepsTheLeaseLaw := by
  intro s t hs hstep
  have hreset : State.reset.leaseLaw := by decide
  exact step_keeps_law (L := State.leaseLaw) (fun _ _ => id) (fun _ _ => id) (fun _ _ => id)
    (fun _ _ hs h u => (h.unitMove u).lawful (hs u)) (fun _ _ _ => hreset) hs hstep

/-! ### The queues (R30, R154) -/

theorem Move.keeps_pendingQueueLaw {s t : State} (hs : s.pendingQueueLaw) (h : Move s t) :
    t.pendingQueueLaw := by
  have hflush (u : UnitNo) (l : Leg) : ((s.seqsFlushed u).get l).lawful := by
    rw [State.seqsFlushed, Four.get_mapIdx]
    split
    · exact LegSeq.flushed_lawful _
    · exact hs l
  intro l
  cases h
  case powerDown =>
    change LegSeq.lawful (Four.get (Four.mapIdx ..) l)
    rw [Four.get_mapIdx]
    exact LegSeq.flushed_lawful _
  case leave u flush _ =>
    change LegSeq.lawful (Four.get (if flush then _ else _) l)
    split
    · exact hflush u l
    · exact hs l
  case strike u c leg _ => exact hflush u l
  case clearTrip u _ =>
    change LegSeq.lawful (Four.get (Four.mapIdx ..) l)
    rw [Four.get_mapIdx]
    split
    · exact hs l
    · exact hs l
  case leg j q st hleg =>
    change LegSeq.lawful ((s.setSeq j q).seq l)
    rw [State.setSeq_seq]
    split
    next hl =>
      subst hl
      exact hleg.queue (hs l)
    next => exact hs l
  case powerUp => simpa [State.seq] using hs l
  all_goals exact hs l

/-- R154: a move offers notices alone. -/
theorem Move.told {s t : State} (h : Move s t) : ∃ ns, t.ports = s.told ns := by
  have hnone : ∃ ns, s.ports = s.told ns := ⟨fun _ => [], s.told_nil.symm⟩
  cases h
  case tell ns => exact ⟨ns, rfl⟩
  case powerUp => simpa using hnone
  case clearTrip => simpa using hnone
  all_goals exact hnone

/-- The notices of a chain of moves are offered together, at the timestamp of the event (R123). -/
theorem Moves.told {s t : State} (h : Moves s t) : ∃ ns, t.ports = s.told ns := by
  have hinv : t.time = s.time ∧ ∃ ns, t.ports = s.told ns :=
    h.keeps (L := fun t => t.time = s.time ∧ ∃ ns, t.ports = s.told ns)
      (fun a b ⟨htime, ns, hns⟩ hmove => by
        obtain ⟨ms, hms⟩ := hmove.told
        exact ⟨hmove.time.trans htime, _, hms.trans (s.told_told a ns ms hns htime)⟩)
      ⟨rfl, fun _ => [], s.told_nil.symm⟩
  exact hinv.2

theorem Moves.keeps_replyQueueLaw {s t : State} (hs : s.replyQueueLaw) (h : Moves s t) :
    t.replyQueueLaw := fun p => by
  obtain ⟨ns, hns⟩ := h.told
  rw [State.port, hns, State.told_get]
  exact PortRec.offerAll_queueLawful _ _ (hs p)

theorem Row.keeps_replyQueueLaw {s t : State} (hs : s.replyQueueLaw) (h : Row s t) :
    t.replyQueueLaw := by
  obtain ⟨s₁, t₁, before, act, after⟩ := h
  have hs₁ : ({ s₁ with time := t₁.time } : State).replyQueueLaw := before.queues hs
  exact after.queues (act.moves.keeps_replyQueueLaw hs₁)

theorem State.resetBy_replyQueueLaw (s : State) (c : ResetCause) (cs : BitVec 4) :
    (s.resetBy c cs).replyQueueLaw := fun p => by
  have hport : (s.resetBy c cs).port p = portAfterReset cs p := Four.get_tabulate ..
  rw [hport]
  exact ⟨Nat.zero_le _, Nat.zero_le _⟩

/-- Settles O55: notices are admitted within the limits, a reply or ERROR entry takes its room first,
and each move keeps the law of each pending queue. -/
theorem everyStepKeepsTheQueueLaws : Obligations.EveryStepKeepsTheQueueLaws := by
  refine ⟨fun s t hs hstep => ?_, fun s t hs hstep => ?_⟩
  · exact step_keeps (fun _ _ => id) State.resetBy_replyQueueLaw
      (fun _ _ => Row.keeps_replyQueueLaw) hs hstep
  · have hreset : State.reset.pendingQueueLaw := by decide
    exact step_keeps_law (L := State.pendingQueueLaw) (fun _ _ => id) (fun _ _ => id)
      (fun _ _ => id) (fun _ _ => Move.keeps_pendingQueueLaw) (fun _ _ _ => hreset) hs hstep

end Sys2Proof.Machine
end

section
/-! PROOFS. The laws of drive permission (R54, R56) and of the trip records (R96, R98, R111), kept by
every elementary move; O54, O57 and O60. -/

namespace Sys2Proof.Machine

/-! ### Drive permission at one leg (R56) -/

/-- R56 at leg `l`: it is out of FORCED only while drive is permitted on it, and when FORCED it has both
gates off and an IDLE sequencer. -/
def State.drivenLeg (s : State) (l : Leg) : Prop :=
  ((s.stage l).state ≠ .forced → s.drivePermitted l = true) ∧
    ((s.stage l).state = .forced →
      (s.stage l).gh = false ∧ (s.stage l).gl = false ∧ (s.seq l).active = none)

/-- The same, for every leg. -/
def State.drivenLaw (s : State) : Prop := ∀ l, s.drivenLeg l

/-- A leg on which drive is not permitted is FORCED. -/
theorem State.drivenLeg.forced {s : State} {l : Leg} (h : s.drivenLeg l)
    (hdrive : ¬ s.drivePermitted l = true) : (s.stage l).state = .forced := by
  by_contra hawake
  exact hdrive (h.1 hawake)

/-- Drive permission reads the lease, trip, supply and phase. -/
theorem State.drivePermitted_congr {s t : State} {l : Leg} (hunit : t.unitOf l = s.unitOf l)
    (hlease : (t.unit (s.unitOf l)).lease = (s.unit (s.unitOf l)).lease)
    (htrip : t.tripped (s.unitOf l) = s.tripped (s.unitOf l))
    (hsupply : t.supply.state = .good ↔ s.supply.state = .good)
    (hphase : t.setup.phase = s.setup.phase) :
    t.drivePermitted l = true ↔ s.drivePermitted l = true := by
  rw [State.drivePermitted_iff, State.drivePermitted_iff, hunit, hlease, htrip, hsupply, hphase]

/-- A leg whose stage and sequencer stand, with drive permitted as before. -/
theorem State.drivenLeg_congr {s t : State} {l : Leg} (hs : s.drivenLeg l)
    (hstage : t.stage l = s.stage l) (hseq : t.seq l = s.seq l)
    (hdrive : t.drivePermitted l = true ↔ s.drivePermitted l = true) : t.drivenLeg l := by
  unfold State.drivenLeg
  rw [hstage, hseq, hdrive]
  exact hs

/-- A leg forced off whose sequencer is IDLE. -/
theorem State.drivenLeg_of_forced {t : State} {l : Leg} {e : LegEntry} {st : Stage}
    (hstage : t.stage l = forceStage e st) (hactive : (t.seq l).active = none) :
    t.drivenLeg l := by
  unfold State.drivenLeg
  rw [hstage]
  exact ⟨fun h => absurd (bothOff_state ..) h,
    fun _ => ⟨bothOff_gh .., bothOff_gl .., hactive⟩⟩

/-- A FORCED leg that rests exactly when drive has come to be permitted on it. -/
theorem State.drivenLeg_of_restored {s t : State} {l : Leg} (hs : s.drivenLeg l)
    (hforced : (s.stage l).state = .forced) (hactive : (t.seq l).active = (s.seq l).active)
    {c : Prop} [Decidable c] {e : LegEntry} {held : Bool}
    (hstage : t.stage l = if c then restStage e held (s.stage l) else s.stage l)
    (hdrive : c → t.drivePermitted l = true) : t.drivenLeg l := by
  unfold State.drivenLeg
  rw [hactive, hstage]
  split
  next hc =>
    have hawake : (restStage e held (s.stage l)).state = .resting := by
      simp [restStage, hforced]
    simp [hawake, hdrive hc]
  next => exact ⟨fun h => absurd hforced h, hs.2⟩

/-- The same for a stage that the restoring of unit `u` gives. -/
theorem State.restored_stage (s : State) (c : Leg → Prop) [DecidablePred c] (held : Leg → Bool)
    (l : Leg) :
    (s.stages.mapIdx fun l st => if c l then restStage (s.legEntry l) (held l) st else st).get l =
      if c l then restStage (s.legEntry l) (held l) (s.stage l) else s.stage l :=
  Four.get_mapIdx ..

theorem State.seqsFlushed_get (s : State) (u : UnitNo) (l : Leg) :
    (s.seqsFlushed u).get l = if s.unitOf l = u then (s.seq l).flushed else s.seq l :=
  Four.get_mapIdx ..

/-- The sequencers of a part in which unit `u` has left its lease. -/
theorem State.left_seq (s : State) (u : UnitNo) (flush : Bool) (l : Leg) :
    (if flush then s.seqsFlushed u else s.seqs).get l =
      if flush = true ∧ s.unitOf l = u then (s.seq l).flushed else s.seq l := by
  cases flush
  · rfl
  · simpa using s.seqsFlushed_get u l

theorem State.stagesForced_get (s : State) (u : UnitNo) (l : Leg) :
    (s.stagesForced u).get l =
      if s.unitOf l = u then forceStage (s.legEntry l) (s.stage l) else s.stage l :=
  Four.get_mapIdx ..

/-- A trip record that gains a later cause is TRIPPED as before (R101). -/
theorem TripRec.addLater_tripped (r : TripRec) (c : Cause) :
    (r.addLater c).tripped = r.tripped := by
  cases c <;> rfl

/-- R56: the legs of a unit granted rest exactly when drive comes to be permitted on them. -/
theorem State.granted_drivenLeg {s : State} {u : UnitNo} (p : Port) (ms : Nat)
    (rest : List WaitEntry) (hlease : (s.unit u).lease = .free ∨ (s.unit u).lease = .quiet)
    {l : Leg} (hs : s.drivenLeg l) : (s.granted u p ms rest).drivenLeg l := by
  by_cases hl : s.unitOf l = u
  · have hforced : (s.stage l).state = .forced := hs.forced fun hdrive => by
      obtain ⟨hheld | hrel, -⟩ := s.drivePermitted_iff l |>.mp hdrive <;>
        rw [hl] at * <;> simp_all
    refine State.drivenLeg_of_restored hs hforced rfl
      (s.restored_stage (fun l => s.unitOf l = u ∧ s.tripped u = false ∧ s.supply.state = .good ∧
        s.setup.phase = .run) (fun _ => true) l) fun ⟨_, htrip, hgood, hrun⟩ => ?_
    rw [State.drivePermitted_iff]
    have hunit : (s.granted u p ms rest).unit (s.unitOf l) = heldRec p ms rest := by
      rw [hl]
      exact Four.get_set_same ..
    refine ⟨.inl (congrArg UnitRec.lease hunit), ?_, hgood, hrun⟩
    rw [← hl] at htrip
    exact htrip
  · refine State.drivenLeg_congr hs ?_ rfl (State.drivePermitted_congr rfl ?_ rfl Iff.rfl rfl)
    · exact (s.restored_stage (fun l => s.unitOf l = u ∧ s.tripped u = false ∧
        s.supply.state = .good ∧ s.setup.phase = .run) (fun _ => true) l).trans
        (if_neg fun h => hl h.1)
    · exact congrArg UnitRec.lease (Four.get_set_ne _ _ _ _ hl)

/-- R65: a leg that is not RESTING shows no idle level. -/
theorem idleStage_forced {e : LegEntry} {held : Bool} {st : Stage} (h : st.state = .forced) :
    idleStage e held st = st := by
  simp [idleStage, h]

theorem idleStage_state (e : LegEntry) (held : Bool) (st : Stage) :
    (idleStage e held st).state = st.state := by
  unfold idleStage
  split <;> simp

/-- R17, R65: FINISH leaves drive permitted as it was. -/
theorem State.finish_drivenLeg {s : State} {u : UnitNo} (hheld : (s.unit u).lease = .held)
    {l : Leg} (hs : s.drivenLeg l) :
    ((s.setUnit u (s.unit u).toReleasing).onUnitStages u idleStage).drivenLeg l := by
  generalize ht : (s.setUnit u (s.unit u).toReleasing).onUnitStages u idleStage = t
  have hstage : t.stage l =
      if s.unitOf l = u then idleStage (s.legEntry l) (t.unitHeld l) (s.stage l) else s.stage l := by
    subst ht
    exact Four.get_mapIdx ..
  have hlease : ((t.unit (s.unitOf l)).lease = .held ∨ (t.unit (s.unitOf l)).lease = .releasing) ↔
      ((s.unit (s.unitOf l)).lease = .held ∨ (s.unit (s.unitOf l)).lease = .releasing) := by
    have hunit : t.unit (s.unitOf l) =
        if s.unitOf l = u then (s.unit u).toReleasing else s.unit (s.unitOf l) := by
      subst ht
      exact State.setUnit_unit ..
    rw [hunit]
    split
    next hl => simp [hl, hheld, UnitRec.toReleasing]
    next => rfl
  have hdrive : t.drivePermitted l = true ↔ s.drivePermitted l = true := by
    rw [State.drivePermitted_iff, State.drivePermitted_iff]
    subst ht
    exact and_congr hlease Iff.rfl
  have hseq : t.seq l = s.seq l := by
    subst ht
    rfl
  have hstate : (t.stage l).state = (s.stage l).state := by
    rw [hstage]
    split
    · exact idleStage_state ..
    · rfl
  refine ⟨fun h => hdrive.mpr (hs.1 (hstate ▸ h)), fun h => ?_⟩
  have hforced := hstate ▸ h
  have hsame : t.stage l = s.stage l := by
    rw [hstage, idleStage_forced hforced, ite_self]
  rw [hsame, hseq]
  exact hs.2 hforced

/-- R5, R20: a unit that leaves its lease has its legs forced off and idle. -/
theorem State.leave_drivenLeg {s : State} {u : UnitNo} {flush : Bool}
    (hidle : flush = true ∨ s.unitDrained u = true) {l : Leg} (hs : s.drivenLeg l) :
    ({ s with
        units := s.units.set u (s.quietRec u), stages := s.stagesForced u
        seqs := if flush then s.seqsFlushed u else s.seqs } : State).drivenLeg l := by
  by_cases hl : s.unitOf l = u
  · refine State.drivenLeg_of_forced ((s.stagesForced_get u l).trans (if_pos hl)) ?_
    refine (congrArg LegSeq.active (s.left_seq u flush l)).trans ?_
    split
    next => rfl
    next hflush =>
      have hdrained := (s.unitDrained_iff u).mp (hidle.resolve_left fun h => hflush ⟨h, hl⟩) l hl
      simpa using (Bool.and_eq_true_iff.mp hdrained).1
  · refine State.drivenLeg_congr hs ((s.stagesForced_get u l).trans (if_neg hl)) ?_
      (State.drivePermitted_congr rfl ?_ rfl Iff.rfl rfl)
    · exact (s.left_seq u flush l).trans (if_neg fun h => hl h.2)
    · exact congrArg UnitRec.lease (Four.get_set_ne _ _ _ _ hl)

/-- R98: a trip forces off and flushes the legs of its unit. -/
theorem State.strike_drivenLeg {s : State} {u : UnitNo} {r : TripRec} {l : Leg}
    (hs : s.drivenLeg l) :
    ({ s with
        trips := s.trips.set u r, stages := s.stagesForced u
        seqs := s.seqsFlushed u } : State).drivenLeg l := by
  by_cases hl : s.unitOf l = u
  · refine State.drivenLeg_of_forced ((s.stagesForced_get u l).trans (if_pos hl)) ?_
    exact congrArg LegSeq.active ((s.seqsFlushed_get u l).trans (if_pos hl))
  · refine State.drivenLeg_congr hs ((s.stagesForced_get u l).trans (if_neg hl))
      ((s.seqsFlushed_get u l).trans (if_neg hl))
      (State.drivePermitted_congr rfl rfl ?_ Iff.rfl rfl)
    exact congrArg TripRec.tripped (Four.get_set_ne _ _ _ _ hl)

/-- R106: the legs of a unit whose trip is cleared rest exactly when drive is then permitted. -/
theorem State.clearTrip_drivenLeg {s : State} {u : UnitNo} (htripped : s.tripped u = true)
    {l : Leg} (hs : s.drivenLeg l) : (s.clearTrip u).drivenLeg l := by
  generalize hs₁ : (s.setTrip u .reset).resetEscalation u = s₁
  have hstage : (s.clearTrip u).stage l =
      if s.unitOf l = u ∧ s₁.drivePermitted l = true then
        restStage (s.legEntry l) (s₁.unitHeld l) (s.stage l)
      else s.stage l := by
    subst hs₁
    exact Four.get_mapIdx ..
  have hdrive : (s.clearTrip u).drivePermitted l = s₁.drivePermitted l := by
    subst hs₁
    rfl
  have hactive : ((s.clearTrip u).seq l).active = (s.seq l).active := by
    refine (congrArg LegSeq.active (Four.get_mapIdx ..)).trans ?_
    split <;> rfl
  by_cases hl : s.unitOf l = u
  · have hforced : (s.stage l).state = .forced := hs.forced fun hdrive => by
      obtain ⟨-, hnormal, -⟩ := s.drivePermitted_iff l |>.mp hdrive
      rw [hl, htripped] at hnormal
      cases hnormal
    exact State.drivenLeg_of_restored hs hforced hactive hstage fun h => hdrive.trans h.2
  · have hsame : (s.clearTrip u).stage l = s.stage l := hstage.trans (if_neg fun h => hl h.1)
    have hpermitted : (s.clearTrip u).drivePermitted l = true ↔ s.drivePermitted l = true := by
      refine State.drivePermitted_congr rfl rfl ?_ Iff.rfl rfl
      exact congrArg TripRec.tripped (Four.get_set_ne _ _ _ _ hl)
    unfold State.drivenLeg
    rw [hsame, hactive, hpermitted]
    exact hs

/-- In SETUP every leg is FORCED, and stays so while stages and sequencers stand. -/
theorem State.setup_drivenLeg {s t : State} (hsetup : s.setup.phase = .setup) {l : Leg}
    (hs : s.drivenLeg l) (hstage : t.stage l = s.stage l) (hseq : t.seq l = s.seq l) :
    t.drivenLeg l := by
  have hforced : (s.stage l).state = .forced := hs.forced fun hdrive => by
    obtain ⟨-, -, -, hrun⟩ := s.drivePermitted_iff l |>.mp hdrive
    simp [hsetup] at hrun
  unfold State.drivenLeg
  rw [hstage, hseq]
  exact ⟨fun h => absurd hforced h, hs.2⟩

/-- R119: with the supply out of GOOD every leg is FORCED, and it rests exactly when drive comes to be
permitted. -/
theorem State.powerUp_drivenLeg {s : State} (h : s.supply.state ≠ .good) {l : Leg}
    (hs : s.drivenLeg l) :
    (s.setSupplyRec { state := .good, timer := 0 }).restoreAll.drivenLeg l := by
  have hforced : (s.stage l).state = .forced := hs.forced fun hdrive => by
    obtain ⟨-, -, hgood, -⟩ := s.drivePermitted_iff l |>.mp hdrive
    exact h hgood
  exact State.drivenLeg_of_restored hs hforced rfl (Four.get_mapIdx ..) id

/-- A change of one leg that keeps to `LegMove`. -/
theorem LegMove.drivenLeg {s : State} {l : Leg} {q : LegSeq} {st : Stage} (h : LegMove s l q st)
    {j : Leg} (hs : s.drivenLeg j) : ((s.setSeq l q).setStage l st).drivenLeg j := by
  by_cases hj : j = l
  · subst hj
    have hstage : ((s.setSeq j q).setStage j st).stage j = st := State.setStage_stage_same ..
    have hseq : ((s.setSeq j q).setStage j st).seq j = q := State.setSeq_seq_same ..
    unfold State.drivenLeg
    rw [hstage, hseq]
    refine ⟨fun hawake => ?_, fun hforced => ?_⟩
    · obtain hdrive | hold | hbusy := h.awake hawake
      · exact hdrive
      · exact hs.1 hold
      · exact hs.1 fun hforced => hbusy (hs.2 hforced).2.2
    · obtain ⟨hold, hactive, hoff⟩ := h.forced hforced
      obtain ⟨hgh, hgl, hidle⟩ := hs.2 hold
      obtain ⟨hgh', hgl'⟩ := hoff ⟨hgh, hgl⟩
      exact ⟨hgh', hgl', hactive hidle⟩
  · exact State.drivenLeg_congr hs (State.setStage_stage_ne _ _ _ _ hj)
      (s.setSeq_seq_ne _ _ q hj) Iff.rfl

theorem wuStage_forced_iff (st : Stage) : (wuStage st).state = .forced ↔ st.state = .forced := by
  simp only [wuStage]
  split <;> simp_all

theorem Move.keeps_drivenLaw {s t : State} (hs : s.drivenLaw) (h : Move s t) : t.drivenLaw := by
  intro l
  have hl := hs l
  cases h
  case supply v h h' =>
    exact State.drivenLeg_congr hl rfl rfl
      (State.drivePermitted_congr rfl rfl rfl ⟨h, h'⟩ rfl)
  case powerDown =>
    refine State.drivenLeg_of_forced (Four.get_mapIdx ..) ?_
    exact congrArg LegSeq.active (Four.get_mapIdx ..)
  case powerUp h => exact State.powerUp_drivenLeg h hl
  case lockTick =>
    refine State.drivenLeg_congr hl rfl rfl (State.drivePermitted_congr ?_ rfl rfl Iff.rfl ?_)
    · exact congrArg (fun b : Board => b.unitMap.get l) s.setup.tick_board
    · exact s.setup.tick_phase
  case board b hsetup _ => exact State.setup_drivenLeg hsetup hl rfl rfl
  case unitMap m hsetup => exact State.setup_drivenLeg hsetup hl rfl rfl
  case enterRun hsetup => exact State.setup_drivenLeg hsetup hl rfl rfl
  case unit u r _ hlease =>
    refine State.drivenLeg_congr hl rfl rfl (State.drivePermitted_congr rfl ?_ rfl Iff.rfl rfl)
    rw [State.setUnit_unit]
    split
    next h => rw [h, hlease]
    next => rfl
  case freed u hquiet _ =>
    refine State.drivenLeg_congr hl rfl rfl ?_
    simp only [State.drivePermitted_iff, State.setUnit_unit, State.setUnit_unitOf]
    split
    next h => simp [h, hquiet]
    next => rfl
  case grant u p ms rest _ hlease => exact State.granted_drivenLeg p ms rest hlease hl
  case finish u hheld => exact State.finish_drivenLeg hheld hl
  case leave u flush hidle => exact State.leave_drivenLeg hidle hl
  case strike u c leg _ => exact State.strike_drivenLeg hl
  case later u c htripped =>
    refine State.drivenLeg_congr hl rfl rfl (State.drivePermitted_congr rfl rfl ?_ Iff.rfl rfl)
    change TripRec.tripped (State.trip _ _) = _
    rw [State.setTrip_trip]
    split
    next h => rw [h]; exact TripRec.addLater_tripped _ _
    next => rfl
  case clearTrip u htripped => exact State.clearTrip_drivenLeg htripped hl
  case leg j q st hleg => exact hleg.drivenLeg hl
  case wu =>
    have hstage : (s.setStages (s.stages.mapIdx fun _ st => wuStage st)).stage l =
        wuStage (s.stage l) := Four.get_mapIdx ..
    unfold State.drivenLeg
    rw [hstage, Ne, wuStage_forced_iff]
    exact hl
  all_goals exact hl

/-! ### The gates a leg has (R54) -/

/-- R54 at one leg: no gate is on that the leg's kind does not use. -/
abbrev Stage.fits (e : LegEntry) (st : Stage) : Prop :=
  (e.kind = .highSide → st.gl = false) ∧ (e.kind = .lowSide → st.gh = false)

/-- Every move of a stage record turns on gates of the leg's kind alone. -/
theorem StageMove.fits {e : LegEntry} {a b : Stage} (h : StageMove e a b) (ha : a.fits e) :
    b.fits e := by
  induction h with
  | refl => exact ha
  | trans _ _ ih ih' => exact ih' (ih ha)
  | enter => exact ha
  | unguard => exact ha
  | offGH st =>
    unfold turnOffGH
    split
    · exact ⟨ha.1, fun _ => rfl⟩
    · exact ha
  | offGL st =>
    unfold turnOffGL
    split
    · exact ⟨fun _ => rfl, ha.2⟩
    · exact ha
  | onGH st hkind =>
    obtain ⟨-, -, -, heq⟩ | heq := turnOnGH_cases st <;> rw [heq]
    · exact ⟨ha.1, fun h => absurd h hkind⟩
    · exact ha
  | onGL st hkind =>
    obtain ⟨-, -, -, heq⟩ | heq := turnOnGL_cases st <;> rw [heq]
    · exact ⟨fun h => absurd h hkind, ha.2⟩
    · exact ha
  | bothOff st x => exact ⟨fun _ => bothOff_gl .., fun _ => bothOff_gh ..⟩
  | wu => exact ha

theorem State.driveLaw_iff (s : State) :
    s.driveLaw ↔ s.drivenLaw ∧ ∀ l, (s.stage l).fits (s.legEntry l) := by
  simp only [State.driveLaw, State.drivenLaw, State.drivenLeg, Stage.fits, ← forall_and, and_assoc]

/-- An act keeps the drive law: the stages move by themselves, or, in SETUP, are all FORCED and stand. -/
theorem Act.keeps_driveLaw {s t : State} (hs : s.driveLaw) (h : Act s t) : t.driveLaw := by
  obtain ⟨hdriven, hfits⟩ := s.driveLaw_iff.mp hs
  refine t.driveLaw_iff.mpr
    ⟨h.moves.keeps (L := State.drivenLaw) (s := { s with time := t.time })
      (fun _ _ => Move.keeps_drivenLaw) hdriven, fun l => ?_⟩
  obtain ⟨hsetup, hstages⟩ | hmove := h.stages
  · have hstage : t.stage l = s.stage l := congrArg (·.get l) hstages
    have hforced : (s.stage l).state = .forced := (hdriven l).forced fun hdrive => by
      obtain ⟨-, -, -, hrun⟩ := s.drivePermitted_iff l |>.mp hdrive
      simp [hsetup] at hrun
    obtain ⟨hgh, hgl, -⟩ := (hdriven l).2 hforced
    rw [hstage]
    exact ⟨fun _ => hgl, fun _ => hgh⟩
  · have hentry : t.legEntry l = s.legEntry l := congrArg (fun b : Board => b.legs.get l) hmove.board
    rw [hentry]
    exact (hmove.stage l).fits (hfits l)

theorem Row.keeps_driveLaw {s t : State} (hs : s.driveLaw) (h : Row s t) : t.driveLaw := by
  obtain ⟨s₁, t₁, before, act, after⟩ := h
  have hs₁ : s₁.driveLaw := before.frame ▸ hs
  have ht₁ : t₁.driveLaw := act.keeps_driveLaw hs₁
  exact after.frame ▸ ht₁

/-- Settles O54: each move keeps drive permission at each leg, and each act turns on gates of a leg's
kind alone; the companion laws are not needed. -/
theorem everyStepKeepsTheDriveLaw : Obligations.EveryStepKeepsTheDriveLaw := by
  intro s t hs _ _ _ hstep
  have hreset : State.reset.driveLaw := by decide
  exact step_keeps (fun _ _ h => h) (fun _ _ _ => hreset) (fun _ _ => Row.keeps_driveLaw) hs hstep

/-! ### The trip records (R96, R98, R111) -/

/-- A sequencer that a flush order may have reached is idle and empty if it was. -/
theorem State.seqsFlushed_idleEmpty {s : State} {u : UnitNo} {l : Leg}
    (h : (s.seq l).idleEmpty = true) : ((s.seqsFlushed u).get l).idleEmpty = true := by
  rw [s.seqsFlushed_get]
  split
  · rfl
  · exact h

/-- A trip law whose trip records and phase stand. -/
theorem State.tripLaw_of_trips {s t : State} (hs : s.tripLaw) (htrips : t.trips = s.trips)
    (hunit : ∀ l, t.unitOf l = s.unitOf l) (hphase : t.setup.phase = s.setup.phase)
    (hidle : ∀ l, s.tripped (s.unitOf l) = true → (s.seq l).idleEmpty = true →
      (t.seq l).idleEmpty = true) : t.tripLaw := by
  obtain ⟨hnormal, hlegs, hsetup⟩ := hs
  have htrip (u : UnitNo) : t.trip u = s.trip u := congrArg (·.get u) htrips
  have htripped (u : UnitNo) : t.tripped u = s.tripped u := congrArg TripRec.tripped (htrip u)
  refine ⟨fun u hu => ?_, fun l hl => ?_, fun h u => ?_⟩
  · rw [htrip]
    exact hnormal u (htripped u ▸ hu)
  · rw [htripped, hunit] at hl
    exact hidle l hl (hlegs l hl)
  · rw [htripped]
    exact hsetup (hphase ▸ h) u

/-- R78: a trip can be asked for in RUN alone. -/
theorem State.canTrip.run {s : State} (h : s.canTrip) (hsense : s.senseLaw) :
    s.setup.phase = .run := by
  obtain hrun | ⟨n, harmed⟩ := h
  · exact hrun
  · exact ((hsense n).1 harmed).1

/-- The law holds while every trip record has its reset value. -/
theorem State.tripLaw_of_normal {t : State} (h : ∀ u, t.trip u = .reset) : t.tripLaw := by
  have hnormal (u : UnitNo) : t.tripped u = false := congrArg TripRec.tripped (h u)
  exact ⟨fun u _ => h u, fun l hl => by simp [hnormal] at hl, fun _ => hnormal⟩

/-- R98, R101: the law with one trip record written, the legs of a TRIPPED unit being idle and empty. -/
theorem State.tripLaw_of_set {s t : State} {u : UnitNo} {r : TripRec} (hs : s.tripLaw)
    (htrips : t.trips = s.trips.set u r) (hunit : ∀ l, t.unitOf l = s.unitOf l)
    (hphase : t.setup.phase = s.setup.phase) (hrun : r.tripped = true → s.setup.phase = .run)
    (hnormal : r.tripped = false → r = .reset)
    (hidle : ∀ l, (s.seq l).idleEmpty = true → (t.seq l).idleEmpty = true)
    (hstruck : ∀ l, s.unitOf l = u → r.tripped = true → (t.seq l).idleEmpty = true) :
    t.tripLaw := by
  have htrip (v : UnitNo) : t.trip v = if v = u then r else s.trip v := by
    rw [State.trip, htrips, Four.get_set]
    rfl
  refine ⟨fun v hv => ?_, fun l hl => ?_, fun h v => ?_⟩
  · rw [State.tripped, htrip] at hv
    rw [htrip]
    split at hv
    next h => rw [if_pos h]; exact hnormal hv
    next h => rw [if_neg h]; exact hs.1 v hv
  · rw [State.tripped, htrip, hunit] at hl
    split at hl
    next h => exact hstruck l h hl
    next => exact hidle l (hs.2.1 l hl)
  · have hsetup : s.setup.phase = .setup := hphase ▸ h
    rw [State.tripped, htrip]
    split
    · by_contra htripped
      simp [hrun (by simpa using htripped)] at hsetup
    · exact hs.2.2 hsetup v

theorem Move.keeps_tripLaw {s t : State} (hs : s.tripLaw) (hsense : s.senseLaw) (h : Move s t) :
    t.tripLaw := by
  have hreset (hsetup : s.setup.phase = .setup) (u : UnitNo) : s.trip u = .reset :=
    hs.1 u (hs.2.2 hsetup u)
  cases h
  case powerDown =>
    refine State.tripLaw_of_trips hs rfl (fun _ => rfl) rfl fun l _ _ => ?_
    exact congrArg LegSeq.idleEmpty (Four.get_mapIdx ..)
  case powerUp => exact State.tripLaw_of_trips hs rfl (fun _ => rfl) rfl fun _ _ => id
  case lockTick =>
    refine State.tripLaw_of_trips hs rfl (fun l => ?_) s.setup.tick_phase fun _ _ => id
    exact congrArg (fun b : Board => b.unitMap.get l) s.setup.tick_board
  case board b hsetup hmap =>
    exact State.tripLaw_of_normal fun u => (hreset hsetup u)
  case unitMap m hsetup =>
    refine State.tripLaw_of_normal fun u => ((Four.get_mapIdx ..).trans ?_)
    split
    · exact hreset hsetup u
    · rfl
  case enterRun hsetup =>
    refine State.tripLaw_of_normal fun u => ((Four.get_mapIdx ..).trans ?_)
    split
    · rfl
    · exact hreset hsetup u
  case leave u flush _ =>
    refine State.tripLaw_of_trips hs rfl (fun _ => rfl) rfl fun l _ hidle => ?_
    refine (congrArg LegSeq.idleEmpty (s.left_seq u flush l)).trans ?_
    split
    · rfl
    · exact hidle
  case strike u c leg hcan =>
    refine State.tripLaw_of_set hs rfl (fun _ => rfl) rfl (fun _ => hcan.run hsense) nofun
      (fun l => State.seqsFlushed_idleEmpty) fun l hl _ => ?_
    exact congrArg LegSeq.idleEmpty ((s.seqsFlushed_get u l).trans (if_pos hl))
  case later u c htripped =>
    refine State.tripLaw_of_set hs rfl (fun _ => rfl) rfl (fun _ => ?_) (fun h => ?_) (fun _ => id)
      fun l hl _ => hs.2.1 l (hl ▸ htripped)
    · by_contra hphase
      have hsetup : s.setup.phase = .setup := by
        cases hp : s.setup.phase with
        | setup => rfl
        | run => exact absurd hp hphase
      simp [hs.2.2 hsetup u] at htripped
    · rw [TripRec.addLater_tripped] at h
      simp [State.tripped, h] at htripped
  case clearTrip u _ =>
    refine State.tripLaw_of_set (u := u) (r := .reset) hs ?_ (fun _ => rfl) rfl nofun (fun _ => rfl)
      (fun l hidle => ?_) nofun
    · simp [State.clearTrip, State.resetEscalation]
    · refine (congrArg LegSeq.idleEmpty (Four.get_mapIdx ..)).trans ?_
      split
      · exact hidle
      · exact hidle
  case leg j q st hleg =>
    refine State.tripLaw_of_trips hs rfl (fun _ => rfl) rfl fun l htripped hidle => ?_
    change ((s.setSeq j q).seq l).idleEmpty = true
    rw [State.setSeq_seq]
    split
    next hl =>
      subst hl
      obtain hdrive | hkeep := hleg.idle
      · obtain ⟨-, hnormal, -⟩ := s.drivePermitted_iff l |>.mp hdrive
        simp [hnormal] at htripped
      · exact hkeep hidle
    next => exact hidle
  all_goals exact hs

/-- Settles O57: with the law of the sense inputs, by which an input is armed in RUN alone, each move
keeps the law of the trip records. -/
theorem everyStepKeepsTheTripLaw : Obligations.EveryStepKeepsTheTripLaw := by
  intro s t hs _ _ hsense hstep
  have hreset : State.reset.tripLaw ∧ State.reset.senseLaw := by decide
  have hjoint := step_keeps_law (L := fun s => s.tripLaw ∧ s.senseLaw) (fun _ _ => id)
    (fun _ _ => id) (fun _ _ => id)
    (fun _ _ h hmove => ⟨hmove.keeps_tripLaw h.1 h.2, hmove.keeps_senseLaw h.2⟩)
    (fun _ _ _ => hreset) ⟨hs, hsense⟩ hstep
  exact hjoint.1

/-- Settles O60: every record after reset has its reset value, of which each law is a finite check. -/
theorem resetKeepsEveryLaw : Obligations.ResetKeepsEveryLaw := by
  have hdead : State.reset.deadTimeLaw := by decide
  have hdrive : State.reset.driveLaw := by decide
  have hreply : State.reset.replyQueueLaw := by decide
  have hpending : State.reset.pendingQueueLaw := by decide
  have hlease : State.reset.leaseLaw := by decide
  have htrip : State.reset.tripLaw := by decide
  have hlock : State.reset.lockLaw := by decide
  have hsense : State.reset.senseLaw := by decide
  exact ⟨hdead, hdrive, hreply, hpending, hlease, htrip, hlock, hsense⟩

end Sys2Proof.Machine
end

section
/-! PROOFS. Chapter 09, resets, transactions and reply queues, and the timestamp: what each row does at
its port; O1, O4, O5, O9 to O15 and O50. -/

namespace Sys2Proof.Machine

/-! ### The queue of rows, and the resets -/

/-- Settles O1: by the definition of a step on a queue that is not empty. -/
theorem stepTakesTheFrontRow : Obligations.StepTakesTheFrontRow := by
  intro s c rest h
  unfold step
  rw [h]

/-- Settles O4: each value stands in the definition of its record's reset value. -/
theorem resetHoldsTheStatedValues : Obligations.ResetHoldsTheStatedValues := by
  have hlegs (l : Leg) : State.reset.legEntry l = .reset := by revert l; decide
  have hunits (u : UnitNo) : State.reset.unitEntry u = .reset := by revert u; decide
  have hunit (u : UnitNo) : State.reset.present u = true ∧ State.reset.unit u = .reset := by
    revert u; decide
  have hseq (l : Leg) : State.reset.seq l = .reset := by revert l; decide
  have hstage (l : Leg) : State.reset.stage l = .reset := by revert l; decide
  have hsense (n : SenseNo) : State.reset.sense n = .reset := by revert n; decide
  have htrip (u : UnitNo) : State.reset.trip u = .reset := by revert u; decide
  have hport (p : Port) : State.reset.port p = .reset := by revert p; decide
  refine ⟨rfl, rfl, rfl, rfl, rfl, rfl, rfl, rfl, hlegs, hunits, by decide, fun u => ?unit,
    fun l => ?seq, fun l => ?stage, fun n => ?sense, fun u => ?trip, rfl, rfl, rfl, rfl, rfl,
    fun p => ?port⟩
  case unit =>
    obtain ⟨hpresent, hu⟩ := hunit u
    rw [hu]
    exact ⟨hpresent, rfl, rfl, rfl, rfl, rfl, rfl, rfl, rfl⟩
  case seq => rw [hseq]; exact ⟨rfl, rfl, rfl, rfl, rfl, rfl⟩
  case stage => rw [hstage]; exact ⟨rfl, rfl, rfl, rfl, rfl, rfl, rfl⟩
  case sense => rw [hsense]; exact ⟨rfl, rfl, rfl, rfl⟩
  case trip => rw [htrip]; exact ⟨rfl, rfl, rfl⟩
  case port =>
    rw [State.attn, hport]
    exact ⟨rfl, rfl, rfl, rfl, rfl, rfl, rfl, rfl, rfl⟩

/-- R148: the port records after a reset. -/
theorem State.resetBy_port (s : State) (c : ResetCause) (csLow : BitVec 4) (p : Port) :
    (s.resetBy c csLow).port p = { PortRec.reset with awaitRise := csLow.getLsbD p.val } :=
  Four.get_tabulate ..

/-- Settles O5: a reset writes the whole part anew, but for the queue of waiting rows. -/
theorem aResetRestoresThePart : Obligations.AResetRestoresThePart := fun csLow s =>
  ⟨⟨_, rfl, rfl, s.resetBy_port .powerOn csLow, rfl⟩, ⟨_, rfl, rfl, s.resetBy_port .pin csLow, rfl⟩⟩

/-! ### Reply queues (R154) -/

/-- Settles O9: the two cases of an offer. -/
theorem aNoticeIsAdmittedOrLost : Obligations.ANoticeIsAdmittedOrLost := by
  intro r n t
  refine ⟨fun hroom => ?_, fun hfull => ?_⟩
  · have hadmits : r.admitsNotice = true := decide_eq_true hroom
    exact if_pos hadmits
  · have hadmits : ¬ r.admitsNotice = true := fun h => hfull (of_decide_eq_true h)
    exact if_neg hadmits

/-- R154: what a queue gains from offered notices is notices, at its tail. -/
theorem PortRec.offerAll_queue (ns : List Notice) (r : PortRec) (t : Stamp) :
    ∃ gained : List Entry, (r.offerAll ns t).queue = r.queue ++ gained ∧
      ∀ e ∈ gained, e.isNotice = true := by
  induction ns generalizing r with
  | nil => exact ⟨[], by simp, by simp⟩
  | cons n ns ih =>
    obtain ⟨gained, hqueue, hnotices⟩ := ih (r.offer n t)
    rw [PortRec.offerAll_cons, hqueue]
    obtain ⟨-, -, hoffer⟩ | hoffer := r.offer_cases n t <;> rw [hoffer]
    · exact ⟨.notice n t :: gained, by simp [PortRec.append], by simpa [Entry.isNotice] using hnotices⟩
    · exact ⟨gained, rfl, hnotices⟩

/-- R155: an act adds notices to the reply queues and nothing else. -/
theorem Act.queue {s t : State} (h : Act s t) (p : Port) :
    ∃ gained : List Entry, (t.port p).queue = (s.port p).queue ++ gained ∧
      ∀ e ∈ gained, e.isNotice = true := by
  obtain ⟨ns, hns⟩ := h.moves.told
  rw [State.port, hns, State.told_get]
  exact PortRec.offerAll_queue ..

/-! ### The fall and the first byte (R150, R151, R156) -/

theorem exec_chipSelectFall {p : Port} {s : State} (h : (s.port p).txn = .idle) :
    exec (.chipSelectFall p) s = .next (s.setPort p ((s.port p).fall (s.statusItems p))) :=
  congrArg Host.Outcome.next (if_pos h)

theorem exec_firstByteWhole {p : Port} {s : State} (b : Byte) (h : (s.port p).txn = .firstByte) :
    exec (.firstByteWhole p b) s = .next (s.setPort p ((s.port p).firstByte b)) :=
  congrArg Host.Outcome.next (if_pos h)

theorem PortRec.firstByte_read (r : PortRec) :
    r.firstByte 0x02 = { r.markShown with
      txn := .read
      chosen := match r.queue with
        | [] => .empty
        | e :: _ => .entry e } := rfl

/-- Settles O10: the fall and the first byte write the record of their port alone. -/
theorem aTransactionBeginsWithItsStatusByte : Obligations.ATransactionBeginsWithItsStatusByte := by
  refine ⟨fun p s hidle => ⟨_, exec_chipSelectFall hidle, ?_⟩,
    fun p b s hfirst => ⟨_, exec_firstByteWhole b hfirst, ?_⟩⟩ <;>
    rw [State.setPort_port_same]
  · exact ⟨rfl, rfl, rfl, rfl, rfl, rfl, rfl, rfl, rfl⟩
  · by_cases hb : b = 0x02
    · subst hb
      rw [PortRec.firstByte_read]
      exact ⟨fun _ => ⟨rfl, rfl⟩, fun h => absurd rfl h, rfl, rfl, rfl, rfl, rfl, rfl, rfl⟩
    · rw [PortRec.firstByte_command _ _ hb]
      exact ⟨fun h => absurd h hb, fun _ => ⟨rfl, rfl, rfl⟩, rfl, rfl, rfl, rfl, rfl, rfl, rfl⟩

/-! ### What a port in a transaction has come to -/

/-- R155: every command row is the taking of its command. -/
theorem exec_taken {i : Instr} {p : Port} {c : Command} {seq : Byte} {body : List Byte}
    (h : commandParts i = some (p, c, seq, body)) :
    ∃ carry : State → State, ∀ s, exec i s = .next (s.takeCommand p c carry) := by
  by_cases hc : c = .portReset
  · subst hc
    obtain rfl := portReset_of_parts h
    exact ⟨_, fun _ => rfl⟩
  · exact ⟨_, fun s => exec_command h hc s⟩

/-- R148: a port that waits for the rise after a reset is blocked. -/
theorem PortRec.blocked_of_await {r : PortRec} (hawait : r.awaitRise = true)
    (hidle : r.txn = .idle) : r.blocked = true := by
  simp [PortRec.blocked, hawait, hidle]

theorem PortRec.not_blocked_of_txn {r : PortRec} (h : r.txn ≠ .idle) : r.blocked = false := by
  simp [PortRec.blocked, h]

/-- Settles O15: the rise of a blocked port is the end of its wait, whatever row stands for it. -/
theorem afterAResetAPortWaitsForTheRise : Obligations.AfterAResetAPortWaitsForTheRise := by
  intro i p s hawait hidle hrow
  have hblocked := PortRec.blocked_of_await hawait hidle
  obtain ⟨c, seq, body, hparts⟩ | ⟨n, rfl⟩ | ⟨bytes, bits, rfl⟩ := hrow
  · obtain ⟨carry, hexec⟩ := exec_taken hparts
    rw [hexec]
    exact congrArg Host.Outcome.next (if_pos hblocked)
  · exact congrArg Host.Outcome.next (if_pos hblocked)
  · exact congrArg Host.Outcome.next (if_pos hblocked)

/-- R151, R156: the record of a port whose transaction began, from IDLE, with byte `b`. -/
def PortRec.begun (r : PortRec) (i : StatusItems) (b : Byte) : PortRec := (r.fall i).firstByte b

theorem PortRec.reach_idle {r : PortRec} (i : StatusItems) (b : Byte) (h : r.txn = .idle) :
    r.reach i b = some (r.begun i b) := by
  simp [PortRec.reach, h, PortRec.begun]

/-- A transaction that began with `b` has come to its first byte. -/
theorem PortRec.reach_begun (r : PortRec) (i j : StatusItems) (b : Byte) :
    (r.begun i b).reach j b = some (r.begun i b) := by
  by_cases hb : b = 0x02
  · subst hb
    rfl
  · simp [PortRec.begun, PortRec.firstByte_command _ _ hb, PortRec.reach]

theorem PortRec.begun_not_blocked (r : PortRec) (i : StatusItems) (b : Byte) :
    (r.begun i b).blocked = false := by
  by_cases hb : b = 0x02
  · subst hb
    rfl
  · simp [PortRec.begun, PortRec.firstByte_command _ _ hb, PortRec.blocked]

/-- R155: the taking of a command once its transaction has been reached. -/
theorem State.takeCommand_reach {s : State} {p : Port} {c : Command} {carry : State → State}
    {r : PortRec} (hblocked : (s.port p).blocked = false)
    (hreach : (s.port p).reach (s.statusItems p) (commandCode c) = some r) :
    s.takeCommand p c carry =
      ((if r.clearShown.hasRoom then carry (s.setPort p r.clearShown)
        else (s.setPort p r.clearShown).dropFrame p).finish p [] (bodyLength c + 4)) := by
  simp [State.takeCommand, hblocked, hreach]

theorem exec_readFrame_reach {s : State} {p : Port} {r : PortRec} (clocked : Nat)
    (hblocked : (s.port p).blocked = false)
    (hreach : (s.port p).reach (s.statusItems p) readCode = some r) :
    exec (.readFrame p clocked) s = .next
      ((s.setPort p (r.collect clocked).clearShown).finish p (chosenBytes r.chosen)
        (clocked + 1)) := by
  simp [exec, execReadFrame, hblocked, hreach]

theorem exec_errorEntry_reach {s : State} {p : Port} {r : PortRec} {b : Byte} {rest : List Byte}
    {bits : Nat} (hblocked : (s.port p).blocked = false)
    (hok : errorFrameOk (b :: rest) bits = true)
    (hreach : (s.port p).reach (s.statusItems p) b = some r) :
    exec (.errorEntry p (b :: rest) bits) s = .next
      ((s.setPort p (r.clearShown.load (b :: rest) bits).answerFrame).finish p []
        (b :: rest).length) := by
  simp [exec, execErrorEntry, hblocked, hok, PortRec.reachFrame, hreach]

/-- Settles O12: a row that ends a transaction reads the port through what the transaction has come to,
which after the fall and the first byte is what it is at once from IDLE. -/
theorem aRiseRowOnAnIdlePortIsTheWholeTransaction :
    Obligations.ARiseRowOnAnIdlePortIsTheWholeTransaction := by
  intro i s p b hidle hawait hrow t₁ t₂ hfall hfirst
  have hblocked : (s.port p).blocked = false := by simp [PortRec.blocked, hawait]
  have hreach := PortRec.reach_idle (s.statusItems p) b hidle
  rw [exec_chipSelectFall hidle] at hfall
  injection hfall with hfall
  subst hfall
  rw [exec_firstByteWhole b (by rw [State.setPort_port_same]; rfl), State.setPort_port_same,
    State.setPort_setPort] at hfirst
  injection hfirst with hfirst
  subst hfirst
  change exec i s = exec i (s.setPort p ((s.port p).begun (s.statusItems p) b))
  generalize ht : s.setPort p ((s.port p).begun (s.statusItems p) b) = t
  have hport : t.port p = (s.port p).begun (s.statusItems p) b := by
    subst ht
    exact State.setPort_port_same ..
  have hblocked' : (t.port p).blocked = false := hport ▸ PortRec.begun_not_blocked ..
  have hreach' : (t.port p).reach (t.statusItems p) b =
      some ((s.port p).begun (s.statusItems p) b) := hport ▸ PortRec.reach_begun ..
  have hset (r : PortRec) : t.setPort p r = s.setPort p r := by
    subst ht
    exact State.setPort_setPort ..
  obtain ⟨c, seq, body, hparts, rfl⟩ | ⟨n, rfl, rfl⟩ | ⟨rest, bits, rfl, hwf⟩ := hrow
  · obtain ⟨carry, hexec⟩ := exec_taken hparts
    rw [hexec, hexec, State.takeCommand_reach hblocked hreach,
      State.takeCommand_reach hblocked' hreach', hset]
  · rw [exec_readFrame_reach n hblocked hreach, exec_readFrame_reach n hblocked' hreach', hset]
  · rw [exec_errorEntry_reach hblocked hwf hreach, exec_errorEntry_reach hblocked' hwf hreach', hset]

/-- The record that an open port comes to by a transaction that began with `b`, no READ frame, and what
the rise makes of it (R150, R158). -/
theorem State.reach_open {s : State} {p : Port} {b : Byte} (h : (s.port p).openFor b = true)
    (hb : b ≠ 0x02) :
    (s.port p).blocked = false ∧
      ∃ r, (s.port p).reach (s.statusItems p) b = some r ∧ r.queue = (s.port p).queue ∧
        ∀ n, r.clearShown.finish [] n = (s.port p).afterRise (s.statusItems p) [] n := by
  unfold PortRec.openFor at h
  cases htxn : (s.port p).txn with
  | idle =>
    simp only [htxn, Bool.not_eq_true'] at h
    refine ⟨by simp [PortRec.blocked, h], _, PortRec.reach_idle _ _ htxn, ?_, fun n => ?_⟩
    · exact PortRec.firstByte_queue ..
    · simp [PortRec.begun, PortRec.firstByte_command _ _ hb, PortRec.clearShown, PortRec.fall,
        PortRec.markShown, PortRec.finish, PortRec.afterRise, htxn, PortRec.droppedAfter,
        PortRec.missedAfter, PortRec.capturedBy, State.statusItems]
  | firstByte =>
    refine ⟨PortRec.not_blocked_of_txn (by simp [htxn]), _, by simp [PortRec.reach, htxn]; rfl,
      PortRec.firstByte_queue .., fun n => ?_⟩
    simp [PortRec.firstByte_command _ _ hb, PortRec.clearShown, PortRec.markShown, PortRec.finish,
      PortRec.afterRise, htxn, PortRec.droppedAfter, PortRec.missedAfter, PortRec.capturedBy]
  | command =>
    simp only [htxn, decide_eq_true_eq] at h
    refine ⟨PortRec.not_blocked_of_txn (by simp [htxn]), s.port p, by simp [PortRec.reach, htxn, h],
      rfl, fun n => ?_⟩
    simp [PortRec.clearShown, PortRec.finish, PortRec.afterRise, htxn, PortRec.droppedAfter,
      PortRec.missedAfter, PortRec.capturedBy]
  | read =>
    simp only [htxn, decide_eq_true_eq] at h
    exact absurd h hb

/-! ### READ frames (R156 to R158) -/

/-- R158: the end of the transaction of a port just written. -/
theorem State.setPort_finish (s : State) (p : Port) (r : PortRec) (out : List Byte) (n : Nat) :
    (s.setPort p r).finish p out n = s.setPort p (r.finish out n) := by
  rw [State.finish, State.setPort_port_same, State.setPort_setPort]

/-- R151, R156: what a transaction of `n` whole bytes shifts out. -/
theorem shiftOut_eq (i : StatusItems) (out : List Byte) (n : Nat) :
    shiftOut i out (n + 1) =
      (statusByte i :: (out ++ List.replicate n 0x00)).take (n + 1) := by
  simp [shiftOut, List.take_append, List.take_replicate]

theorem shiftOut_length (i : StatusItems) (out : List Byte) (n : Nat) :
    (shiftOut i out (n + 1)).length = n + 1 := by
  rw [shiftOut_eq]
  simp

theorem PortRec.collect_entry {r : PortRec} {e : Entry} (h : r.chosen = .entry e) (n : Nat) :
    (r.collect n).queue = if (entryBytes e).length ≤ n then r.queue.tail else r.queue := by
  unfold PortRec.collect
  rw [h]
  dsimp only
  split <;> rfl

/-- A collected entry leaves the other fields of the record. -/
theorem PortRec.collect_eq (r : PortRec) (n : Nat) :
    r.collect n = { r with queue := (r.collect n).queue } := by
  unfold PortRec.collect
  split
  · split <;> rfl
  · rfl
  · rfl

/-- Settles O11: the rise of a READ frame takes the chosen entry from the head if its bytes were all
clocked, clears the flags shown and ends the transaction. -/
theorem aReadFrameCollectsTheHead : Obligations.AReadFrameCollectsTheHead := by
  intro p clocked s hread
  have hreach : (s.port p).reach (s.statusItems p) readCode = some (s.port p) := by
    simp [PortRec.reach, hread]
  have hblocked := PortRec.not_blocked_of_txn (r := s.port p) (by simp [hread])
  refine ⟨_, exec_readFrame_reach clocked hblocked hreach, ?_⟩
  generalize s.port p = r at *
  have hport : ((s.setPort p (r.collect clocked).clearShown).finish p (chosenBytes r.chosen)
      (clocked + 1)).port p =
        (r.collect clocked).clearShown.finish (chosenBytes r.chosen) (clocked + 1) := by
    rw [State.setPort_finish, State.setPort_port_same]
  rw [hport]
  have hframe := r.collect_eq clocked
  have hshifted : ((r.collect clocked).clearShown.finish (chosenBytes r.chosen)
      (clocked + 1)).shifted = shiftOut r.captured (chosenBytes r.chosen) (clocked + 1) := by
    rw [hframe]
    rfl
  rw [hshifted]
  refine ⟨fun e he => ?entry, fun hempty => ?empty, ?dropped, ?missed, rfl, rfl, rfl, rfl, rfl,
    shiftOut_length .., ?bytes, ?frame⟩
  case entry => exact PortRec.collect_entry he clocked
  case empty => simp [PortRec.collect, hempty, PortRec.clearShown, PortRec.finish]
  case dropped => rw [hframe]; rfl
  case missed => rw [hframe]; rfl
  case bytes => rw [shiftOut_eq, List.take_take, min_self]
  case frame => rw [State.setPort_finish]; rfl

/-! ### Frames that fail a check (R153) -/

/-- The ERROR entry of a frame of at least one whole byte. -/
theorem PortRec.errorOf_load (r : PortRec) (b : Byte) (rest : List Byte) (bits : Nat)
    (e : FrameError) :
    (r.load (b :: rest) bits).errorOf e =
      .error e (min 255 (b :: rest).length) b (rest.headD 0x00) := by
  cases rest <;> rfl

/-- R153: a failing frame is answered in a queue with room, and else dropped. -/
theorem PortRec.answerFrame_load {r : PortRec} {bytes : List Byte} {bits : Nat} {e : FrameError}
    (h : frameCheck (bytes.take 31) (min 255 bytes.length) bits = some e) :
    (r.load bytes bits).answerFrame =
      if r.queue.length < 8 then (r.load bytes bits).append ((r.load bytes bits).errorOf e)
      else (r.load bytes bits).drop := by
  have hcheck : frameCheck (r.load bytes bits).buffer (r.load bytes bits).byteCount
      (r.load bytes bits).bitCount = some e := h
  unfold PortRec.answerFrame
  rw [hcheck]
  exact if_congr decide_eq_true_iff rfl rfl

/-- A frame that began with another byte than the READ code and fails a check is an ERROR_ENTRY. -/
theorem errorFrameOk_of_check {b : Byte} {rest : List Byte} {bits : Nat} {e : FrameError}
    (hb : b ≠ 0x02) (hbits : bits < 8)
    (h : frameCheck ((b :: rest).take 31) (min 255 (b :: rest).length) bits = some e) :
    errorFrameOk (b :: rest) bits = true := by
  have hcheck : frameCheck ((b :: rest).take maxFrame) (receivedCount (b :: rest)) bits = some e := h
  unfold errorFrameOk
  rw [hcheck]
  simpa [hbits, readCode] using hb

/-- R151, R152: a frame without a whole byte fails check 1. -/
theorem errorFrameOk_nil {bits : Nat} (hbits : bits < 8) : errorFrameOk [] bits = true := by
  unfold errorFrameOk
  simp [hbits, frameCheck]

/-- R150, R151: the rise of a transaction that ended before its first byte was whole. -/
theorem exec_errorEntry_nil {s : State} {p : Port} {bits : Nat} (hfirst : (s.port p).txn = .firstByte)
    (hbits : bits < 8) :
    exec (.errorEntry p [] bits) s = .next
      ((s.setPort p (if bits = 0 then (s.port p).clearShown
        else ((s.port p).clearShown.load [] bits).answerFrame)).finish p [] 0) := by
  have hblocked := PortRec.not_blocked_of_txn (r := s.port p) (by simp [hfirst])
  simp [exec, execErrorEntry, hblocked, errorFrameOk_nil hbits, PortRec.reachFrame, hfirst]

/-- Settles O13: the record that an open port has come to, the checks of the frame in the buffer, and
the room of the queue decide what becomes of a failing frame. -/
theorem aFrameThatFailsIsAnsweredOrDropped : Obligations.AFrameThatFailsIsAnsweredOrDropped := by
  refine ⟨fun p b rest bits e s hopen hb hbits hcheck => ?whole,
    fun p bits s hfirst hdropped hmissed hbits => ⟨_, exec_errorEntry_nil hfirst hbits, ?short⟩⟩
  case whole =>
    obtain ⟨hblocked, r, hreach, hqueue, hrise⟩ := s.reach_open hopen hb
    rw [exec_errorEntry_reach hblocked (errorFrameOk_of_check hb hbits hcheck) hreach,
      PortRec.answerFrame_load hcheck, PortRec.errorOf_load]
    refine congrArg Host.Outcome.next ?_
    rw [State.setPort_finish, ← hrise, ← hqueue]
    have hlength : r.clearShown.queue.length = r.queue.length := rfl
    rw [hlength]
    refine congrArg (s.setPort p) ?_
    dsimp only
    split <;> rfl
  case short =>
    have hport (r : PortRec) : ((s.setPort p r).finish p [] 0).port p = r.finish [] 0 := by
      rw [State.setPort_finish, State.setPort_port_same]
    have hframe (r : PortRec) : (s.setPort p r).finish p [] 0 =
        { s with ports := s.ports.set p (r.finish [] 0) } := by
      rw [State.setPort_finish]
      rfl
    rw [hport, hframe]
    by_cases hzero : bits = 0
    · rw [if_pos hzero]
      exact ⟨rfl, by simp [PortRec.finish, PortRec.clearShown, hmissed],
        fun _ => ⟨rfl, by simp [PortRec.finish, PortRec.clearShown, hdropped]⟩,
        fun h => absurd hzero h, fun h => absurd hzero h, rfl⟩
    · rw [if_neg hzero, PortRec.answerFrame_load (e := .frame) rfl]
      have hlength : (s.port p).clearShown.queue = (s.port p).queue := rfl
      rw [hlength]
      split
      next hroom =>
        exact ⟨rfl, by simp [PortRec.finish, PortRec.append, PortRec.load, PortRec.clearShown, hmissed],
          fun h => absurd h hzero,
          fun _ _ => ⟨rfl, by
            simp [PortRec.finish, PortRec.append, PortRec.load, PortRec.clearShown, hdropped]⟩,
          fun _ h => absurd h (Nat.not_le.mpr hroom), rfl⟩
      next hfull =>
        exact ⟨rfl, by simp [PortRec.finish, PortRec.drop, PortRec.load, PortRec.clearShown, hmissed],
          fun h => absurd h hzero, fun _ h => absurd h hfull, fun _ _ => ⟨rfl, rfl⟩, rfl⟩

/-! ### Commands dropped or answered (R155) -/

/-- Settles O14: a command that meets a full queue is dropped at its port; another is answered by its
reply, after which its effect adds notices alone. -/
theorem aCommandIsDroppedOrAnsweredOnce : Obligations.ACommandIsDroppedOrAnsweredOnce := by
  refine ⟨fun i p c seq body s hparts hopen hfull => ?dropped,
    fun i p c seq body s hparts hc ⟨hopen, hroom⟩ => ?answered⟩
  all_goals
    obtain ⟨hblocked, r, hreach, hqueue, hrise⟩ := s.reach_open hopen (commandCode_ne_read c)
  case dropped =>
    obtain ⟨carry, hexec⟩ := exec_taken hparts
    have hnoRoom : ¬ r.clearShown.hasRoom = true := by
      simp [PortRec.hasRoom, Config.queueRoom, PortRec.clearShown, hqueue, hfull]
    rw [hexec, State.takeCommand_reach hblocked hreach, if_neg hnoRoom, ← hrise]
    refine congrArg Host.Outcome.next ?_
    rw [State.dropFrame, State.setPort_port_same, State.setPort_setPort, State.setPort_finish]
    rfl
  case answered =>
    have hhasRoom : r.clearShown.hasRoom = true := by
      simp [PortRec.hasRoom, Config.queueRoom, PortRec.clearShown, hqueue, hroom]
    rw [exec_command hparts hc, State.command, State.takeCommand_reach hblocked hreach,
      if_pos hhasRoom]
    generalize hs' : s.setPort p r.clearShown = s'
    generalize hresp : respondOf i s' = response
    have hact : Act (s'.place p (.reply c seq response.result response.data))
        (s'.answer p c seq response) := hresp ▸ respondOf_act i _ s'.ports
    obtain ⟨gained, hgained, hnotices⟩ := hact.queue p
    have hplaced : ((s'.place p (.reply c seq response.result response.data)).port p).queue =
        (s.port p).queue ++ [.reply c seq response.result response.data] := by
      subst hs'
      rw [State.place, State.setPort_port_same, State.setPort_port_same, ← hqueue]
      rfl
    refine ⟨_, response.result, response.data, gained, rfl, ?_, hnotices, ?_⟩
    · rw [State.finish, State.setPort_port_same]
      change ((s'.answer p c seq response).port p).queue = _
      rw [hgained, hplaced, List.append_assoc]
      rfl
    · rw [State.finish, State.setPort_port_same]
      rfl

/-! ### The timestamp (R121) -/

theorem Timebase.step_tick {t : Timebase} (h : t.subMs = 999) :
    t.step = { t with stamp := t.stamp + 1, subMs := 0, wu := 0, ticksDue := t.ticksDue + 1 } :=
  if_pos (by rw [h]; rfl)

theorem Timebase.step_plain {t : Timebase} (h : t.subMs ≠ 999) :
    t.step = { t with stamp := t.stamp + 1, subMs := t.subMs + 1, wu := 0 } :=
  if_neg fun h' => h (Nat.succ.inj h')

/-- Settles O50: the two cases of the sub-millisecond count, and one quiet step of each unit. -/
theorem theTimestampSteps : Obligations.TheTimestampSteps := by
  intro s
  have hunit (u : UnitNo) : ((s.setUnits (s.units.mapIdx fun _ r => r.quietStep)).setTime
      s.time.step).unit u = (s.unit u).quietStep := Four.get_mapIdx ..
  refine ⟨_, rfl, ?_⟩
  simp only [hunit]
  have hquiet (u : UnitNo) : ((s.unit u).lease = .quiet →
      (s.unit u).quietStep = { s.unit u with quiet := (s.unit u).quiet - 1 }) ∧
        ((s.unit u).lease ≠ .quiet → (s.unit u).quietStep = s.unit u) :=
    ⟨fun h => if_pos h, fun h => if_neg h⟩
  change s.time.step.stamp = _ ∧ (_ → s.time.step.subMs = _ ∧ s.time.step.ticksDue = _) ∧
    (_ → s.time.step.subMs = _ ∧ s.time.step.ticksDue = _) ∧ s.time.step.syncCount = _ ∧
      s.time.step.syncLast = _ ∧ s.time.step.wu = _ ∧ _
  by_cases hsub : s.time.subMs = 999
  · rw [Timebase.step_tick hsub]
    exact ⟨rfl, fun _ => ⟨rfl, rfl⟩, fun h => absurd hsub h, rfl, rfl, rfl, fun u => (hquiet u).1,
      fun u => (hquiet u).2, rfl⟩
  · rw [Timebase.step_plain hsub]
    exact ⟨rfl, fun h => absurd h hsub, fun _ => ⟨rfl, rfl⟩, rfl, rfl, rfl, fun u => (hquiet u).1,
      fun u => (hquiet u).2, rfl⟩

end Sys2Proof.Machine
end

section
/-! PROOFS. Chapter 10, command frames: numbers of two and four bytes and back (R167), the checks of a
frame (R152), and the reading and writing of a frame's body (R165, R168, R169); O6, O7 and O8. -/

namespace Sys2Proof.Machine

/-! ### Numbers of two and four bytes (R167) -/

theorem halfOf_halfBytes (h : Half) : halfOf (h.extractLsb' 8 8) (h.extractLsb' 0 8) = h := by
  have happend : h.extractLsb' 8 8 ++ h.extractLsb' 0 8 = h.extractLsb' 0 (8 + 8) :=
    BitVec.extractLsb'_append_extractLsb'_eq_extractLsb' rfl
  exact happend.trans BitVec.extractLsb'_eq_self

theorem halfBytes_halfOf (b1 b0 : Byte) : halfBytes (halfOf b1 b0) = [b1, b0] := by
  have hhigh : (b1 ++ b0).extractLsb' 8 8 = b1 := BitVec.extractLsb'_append_eq_left
  have hlow : (b1 ++ b0).extractLsb' 0 8 = b0 := BitVec.extractLsb'_append_eq_right
  exact congrArg₂ (fun x y => [x, y]) hhigh hlow

theorem stampOf_stampBytes (t : Stamp) :
    stampOf (t.extractLsb' 24 8) (t.extractLsb' 16 8) (t.extractLsb' 8 8) (t.extractLsb' 0 8) =
      t := by
  have htop : t.extractLsb' 24 8 ++ t.extractLsb' 16 8 = t.extractLsb' 16 (8 + 8) :=
    BitVec.extractLsb'_append_extractLsb'_eq_extractLsb' rfl
  have hmid : t.extractLsb' 16 (8 + 8) ++ t.extractLsb' 8 8 = t.extractLsb' 8 (8 + 8 + 8) :=
    BitVec.extractLsb'_append_extractLsb'_eq_extractLsb' rfl
  have hlow : t.extractLsb' 8 (8 + 8 + 8) ++ t.extractLsb' 0 8 = t.extractLsb' 0 (8 + 8 + 8 + 8) :=
    BitVec.extractLsb'_append_extractLsb'_eq_extractLsb' rfl
  unfold stampOf
  rw [htop, hmid]
  exact hlow.trans BitVec.extractLsb'_eq_self

/-- The value of a number written in bytes. -/
theorem append_byte_toNat {w : Nat} (a : BitVec w) (b : Byte) :
    (a ++ b).toNat = a.toNat * 256 + b.toNat := by
  rw [BitVec.toNat_append, ← Nat.shiftLeft_add_eq_or_of_lt b.isLt, Nat.shiftLeft_eq]

theorem stampOf_toNat (b3 b2 b1 b0 : Byte) :
    (stampOf b3 b2 b1 b0).toNat = ((b3.toNat * 256 + b2.toNat) * 256 + b1.toNat) * 256 + b0.toNat := by
  have h2 := append_byte_toNat b3 b2
  have h1 := append_byte_toNat (b3 ++ b2) b1
  have h0 := append_byte_toNat (b3 ++ b2 ++ b1) b0
  rw [h1, h2] at h0
  exact h0

theorem stampBytes_stampOf (b3 b2 b1 b0 : Byte) :
    stampBytes (stampOf b3 b2 b1 b0) = [b3, b2, b1, b0] := by
  have hvalue := stampOf_toNat b3 b2 b1 b0
  have h3 := b3.isLt
  have h2 := b2.isLt
  have h1 := b1.isLt
  have h0 := b0.isLt
  have hbyte {k : Nat} {b : Byte} (h : (stampOf b3 b2 b1 b0).toNat / 2 ^ k % 2 ^ 8 = b.toNat) :
      (stampOf b3 b2 b1 b0).extractLsb' k 8 = b := by
    apply BitVec.eq_of_toNat_eq
    rw [BitVec.extractLsb'_toNat, Nat.shiftRight_eq_div_pow, h]
  unfold stampBytes
  rw [hbyte (b := b3) (by rw [hvalue]; omega), hbyte (b := b2) (by rw [hvalue]; omega),
    hbyte (b := b1) (by rw [hvalue]; omega), hbyte (b := b0) (by rw [hvalue]; omega)]

/-! ### Command codes (R168) -/

@[simp] theorem commandOfCode_commandCode (c : Command) :
    commandOfCode (commandCode c) = some c := by
  cases c <;> rfl

/-- One code of the table of codes. -/
theorem code_cases {b k : Byte} {d c : Command} {r : Option Command}
    (h : (if b = k then some d else r) = some c) : (k = b ∧ d = c) ∨ r = some c := by
  split at h
  next hb => exact .inl ⟨hb.symm, Option.some.inj h⟩
  next => exact .inr h

/-- A known code is the code of its command. -/
theorem commandCode_of_commandOfCode {b : Byte} {c : Command} (h : commandOfCode b = some c) :
    commandCode c = b := by
  unfold commandOfCode at h
  iterate 25
    obtain ⟨hb, rfl⟩ | h := code_cases h
    · exact hb
  cases h

theorem bodyLength_le (c : Command) : bodyLength c ≤ 16 := by cases c <;> decide

/-! ### The checks of a frame (R152) -/

/-- Checks 2 to 5 of a frame whose count of bytes and bits pass check 1. -/
def checksFrom2 (bytes : List Byte) (code len : Byte) (count : Nat) : Option FrameError :=
  if maxBody < len.toNat ∨ count ≠ len.toNat + 4 then some .frame
  else if crc8 bytes.dropLast ≠ bytes.getLastD 0x00 then some .check
  else
    match commandOfCode code with
    | none => some .unknown
    | some c => if bodyLength c ≠ len.toNat then some .length else none

/-- R152: the checks of a frame of which at least four bytes are kept. -/
theorem frameCheck_cons (code seq len x : Byte) (rest : List Byte) (count bits : Nat) :
    frameCheck (code :: seq :: len :: x :: rest) count bits =
      if count < 4 ∨ bits ≠ 0 then some .frame
      else checksFrom2 (code :: seq :: len :: x :: rest) code len count := rfl

/-- R152: a frame of fewer than four bytes fails check 1. -/
theorem frameCheck_short {bytes : List Byte} (h : bytes.length < 4) (count bits : Nat) :
    frameCheck bytes count bits = some .frame := by
  match bytes, h with
  | [], _ => rfl
  | [_], _ => rfl
  | [_, _], _ => rfl
  | [_, _, _], _ => rfl
  | _ :: _ :: _ :: _ :: _, h => simp at h; omega

/-- A list of at least four bytes. -/
theorem exists_four_cons {bytes : List Byte} (h : 4 ≤ bytes.length) :
    ∃ code seq len x rest, bytes = code :: seq :: len :: x :: rest := by
  match bytes, h with
  | code :: seq :: len :: x :: rest, _ => exact ⟨code, seq, len, x, rest, rfl⟩

/-- Settles O8: four kept bytes show check 1 and the length byte; with the length that it gives, all
the bytes are kept. -/
theorem frameChecksAreMadeInOrder : Obligations.FrameChecksAreMadeInOrder := by
  intro bytes bits
  dsimp only
  by_cases hfour : 4 ≤ bytes.length
  · obtain ⟨code, seq, len, x, rest, rfl⟩ := exists_four_cons hfour
    have hkept : (code :: seq :: len :: x :: rest).take 31 =
        code :: seq :: len :: x :: rest.take 27 := rfl
    have hcount : ¬ min 255 (code :: seq :: len :: x :: rest).length < 4 := by omega
    rw [hkept, frameCheck_cons]
    change (¬ (_ ∧ bits = 0) → _) ∧ ((_ ∧ bits = 0) → ¬ (len.toNat ≤ 27 ∧ _ = len.toNat + 4) → _) ∧
      ((_ ∧ bits = 0) → (len.toNat ≤ 27 ∧ _ = len.toNat + 4) → _ → _) ∧
      ((_ ∧ bits = 0) → (len.toNat ≤ 27 ∧ _ = len.toNat + 4) → _ →
        (commandOfCode code = none → _) ∧ ∀ c, commandOfCode code = some c →
          (bodyLength c ≠ len.toNat → _) ∧ (bodyLength c = len.toNat → _))
    refine ⟨fun h1 => if_pos (.inr fun hbits => h1 ⟨hfour, hbits⟩), fun h1 h2 => ?length,
      fun h1 h2 h3 => ?crc, fun h1 h2 h3 => ?command⟩
    all_goals
      obtain ⟨-, hbits⟩ := h1
      rw [if_neg (by simp only [hcount, hbits, ne_eq, not_true, or_self, not_false_iff])]
    case length =>
      refine if_pos ?_
      unfold maxBody
      omega
    all_goals
      obtain ⟨hlen, htotal⟩ := h2
      have hall : code :: seq :: len :: x :: rest.take 27 = code :: seq :: len :: x :: rest := by
        rw [List.take_of_length_le]
        simp only [List.length_cons] at htotal
        omega
      rw [hall]
      unfold checksFrom2
      rw [if_neg (by unfold maxBody; omega)]
    case crc => exact if_pos fun h => h3 h.symm
    case command =>
      rw [if_neg (not_not.mpr h3.symm)]
      refine ⟨fun hcode => by rw [hcode], fun c hcode => ?_⟩
      rw [hcode]
      exact ⟨fun h => if_pos h, fun h => if_neg (not_not.mpr h)⟩
  · have hshort : bytes.length < 4 := Nat.not_le.mp hfour
    have hkept : (bytes.take 31).length < 4 := by
      rw [List.length_take]
      omega
    exact ⟨fun _ => frameCheck_short hkept _ _, fun h => absurd h.1 hfour, fun h => absurd h.1 hfour,
      fun h => absurd h.1 hfour⟩

/-- R152: what a frame that passes every check is. -/
theorem frameCheck_eq_none {bytes : List Byte} {bits : Nat}
    (h : frameCheck (bytes.take maxFrame) (receivedCount bytes) bits = none) :
    bits = 0 ∧ ∃ code seq len rest c, bytes = code :: seq :: len :: rest ∧
      rest.length = len.toNat + 1 ∧ commandOfCode code = some c ∧ bodyLength c = len.toNat ∧
        bytes.getLastD 0x00 = crc8 bytes.dropLast := by
  obtain ⟨hcheck1, hcheck2, hcheck3, hcheck4⟩ := frameChecksAreMadeInOrder bytes bits
  change frameCheck (bytes.take 31) (min 255 bytes.length) bits = none at h
  rw [h] at hcheck1 hcheck2 hcheck3 hcheck4
  have hsound1 := not_not.mp fun h1 => nomatch hcheck1 h1
  have hsound2 := not_not.mp fun h2 => nomatch hcheck2 hsound1 h2
  have hsound3 := not_not.mp fun h3 => nomatch hcheck3 hsound1 hsound2 h3
  obtain ⟨hunknown, hlength⟩ := hcheck4 hsound1 hsound2 hsound3
  obtain ⟨hfour, hbits⟩ := hsound1
  obtain ⟨code, seq, len, x, rest, rfl⟩ := exists_four_cons hfour
  obtain ⟨c, hcode⟩ : ∃ c, commandOfCode code = some c :=
    Option.ne_none_iff_exists'.mp fun h => nomatch hunknown h
  have hbody : bodyLength c = len.toNat := not_not.mp fun h => nomatch (hlength c hcode).1 h
  refine ⟨hbits, code, seq, len, x :: rest, c, rfl, ?_, hcode, hbody, hsound3⟩
  obtain ⟨-, htotal⟩ := hsound2
  simpa using htotal

/-! ### Bodies (R168, R169) -/

/-- R168: the body of a command row has its command's length. -/
theorem body_length {i : Instr} {p : Port} {c : Command} {seq : Byte} {body : List Byte}
    (h : commandParts i = some (p, c, seq, body)) : body.length = bodyLength c := by
  cases i <;> simp only [commandParts, Option.some.injEq, Prod.mk.injEq, reduceCtorEq] at h
  all_goals
    obtain ⟨-, rfl, -, rfl⟩ := h
    rfl

/-- R168, R169: the body of a command row is read back as that row. -/
theorem decodeBody_of_parts {i : Instr} {p : Port} {c : Command} {seq : Byte} {body : List Byte}
    (h : commandParts i = some (p, c, seq, body)) : decodeBody p seq c body = some i := by
  cases i <;> simp only [commandParts, Option.some.injEq, Prod.mk.injEq, reduceCtorEq] at h
  all_goals obtain ⟨rfl, rfl, rfl, rfl⟩ := h
  case setLeg p seq leg kind dt minOn maxOn idle low esc =>
    have hread : decodeBody p seq .setLeg ([leg, kind] ++ halfBytes dt ++ halfBytes minOn ++
        halfBytes maxOn ++ [idle, low, esc]) =
      some (.setLeg p seq leg kind (halfOf (dt.extractLsb' 8 8) (dt.extractLsb' 0 8))
        (halfOf (minOn.extractLsb' 8 8) (minOn.extractLsb' 0 8))
        (halfOf (maxOn.extractLsb' 8 8) (maxOn.extractLsb' 0 8)) idle low esc) := rfl
    simpa only [halfOf_halfBytes] using hread
  case setUnit p seq unit allowed quiet maxLease =>
    have hread : decodeBody p seq .setUnit
        ([unit, allowed] ++ halfBytes quiet ++ halfBytes maxLease) =
      some (.setUnit p seq unit allowed (halfOf (quiet.extractLsb' 8 8) (quiet.extractLsb' 0 8))
        (halfOf (maxLease.extractLsb' 8 8) (maxLease.extractLsb' 0 8))) := rfl
    simpa only [halfOf_halfBytes] using hread
  case claim p seq unit period mode limit =>
    have hread : decodeBody p seq .claim
        ([unit] ++ halfBytes period ++ [mode] ++ halfBytes limit) =
      some (.claim p seq unit (halfOf (period.extractLsb' 8 8) (period.extractLsb' 0 8)) mode
        (halfOf (limit.extractLsb' 8 8) (limit.extractLsb' 0 8))) := rfl
    simpa only [halfOf_halfBytes] using hread
  case enqueue p seq leg raw =>
    have hread : decodeBody p seq .enqueue ([leg, raw.mode] ++ halfBytes raw.period ++
        halfBytes raw.onTime ++ halfBytes raw.count ++
        [raw.tag, raw.flags, raw.stepSign, raw.stepMagnitude] ++ stampBytes raw.gateValue) =
      some (.enqueue p seq leg
        ⟨raw.mode, halfOf (raw.period.extractLsb' 8 8) (raw.period.extractLsb' 0 8),
          halfOf (raw.onTime.extractLsb' 8 8) (raw.onTime.extractLsb' 0 8),
          halfOf (raw.count.extractLsb' 8 8) (raw.count.extractLsb' 0 8), raw.tag, raw.flags,
          raw.stepSign, raw.stepMagnitude,
          stampOf (raw.gateValue.extractLsb' 24 8) (raw.gateValue.extractLsb' 16 8)
            (raw.gateValue.extractLsb' 8 8) (raw.gateValue.extractLsb' 0 8)⟩) := rfl
    simpa only [halfOf_halfBytes, stampOf_stampBytes] using hread
  all_goals rfl

theorem exists_cons_of_length {body : List Byte} {n : Nat} (h : body.length = n + 1) :
    ∃ b rest, body = b :: rest ∧ rest.length = n :=
  match body, h with
  | b :: rest, h => ⟨b, rest, rfl, Nat.succ.inj h⟩

/-- R168, R169: a body of the length of its command that is read as a row is the body of that row. -/
theorem parts_of_decodeBody {i : Instr} {p : Port} {c : Command} {seq : Byte} {body : List Byte}
    (hlength : body.length = bodyLength c) (h : decodeBody p seq c body = some i) :
    commandParts i = some (p, c, seq, body) := by
  cases c <;> simp only [bodyLength] at hlength
  all_goals
    repeat
      obtain ⟨_, _, rfl, hrest⟩ := exists_cons_of_length hlength
      replace hlength := hrest
      clear hrest
    obtain rfl := List.eq_nil_of_length_eq_zero hlength
    injection (show some _ = some i from h) with h
    subst h
  case setLeg | setUnit | claim => simp only [commandParts, halfBytes_halfOf]; rfl
  case enqueue => simp only [commandParts, halfBytes_halfOf, stampBytes_stampOf]; rfl
  all_goals rfl

/-! ### Frames (R165) -/

/-- Settles O6: the frame of a row has its command's length and check byte, so it passes every check,
and its body is read back. -/
theorem decodeReadsBackEveryCommand : Obligations.DecodeReadsBackEveryCommand := by
  intro i p c seq body hparts
  have hlength := body_length hparts
  have hle := bodyLength_le c
  have hlen : (BitVec.ofNat 8 body.length).toNat = body.length := by
    rw [BitVec.toNat_ofNat]
    omega
  generalize hframe : frameBytes c seq body = bytes
  have hbytes : bytes = commandCode c :: seq :: BitVec.ofNat 8 body.length ::
      (body ++ [crc8 (commandCode c :: seq :: BitVec.ofNat 8 body.length :: body)]) :=
    hframe.symm
  have hcheck : frameCheck (bytes.take maxFrame) (receivedCount bytes) 0 = none := by
    obtain ⟨-, -, -, hsound⟩ := frameChecksAreMadeInOrder bytes 0
    have htotal : bytes.length = body.length + 4 := by simp [hbytes]
    have hlast : bytes.getLastD 0x00 = crc8 bytes.dropLast := by
      have hconcat : bytes = (commandCode c :: seq :: BitVec.ofNat 8 body.length :: body) ++
          [crc8 (commandCode c :: seq :: BitVec.ofNat 8 body.length :: body)] := hbytes
      rw [hconcat, List.dropLast_concat, List.getLastD_concat]
    have hbyte : bytes.getD 2 0x00 = BitVec.ofNat 8 body.length := by simp [hbytes]
    rw [hbyte, hlen] at hsound
    obtain ⟨-, hcommand⟩ := hsound ⟨by omega, rfl⟩ ⟨by omega, htotal⟩ hlast
    have hcode : commandOfCode (bytes.headD 0x00) = some c := by simp [hbytes]
    exact (hcommand c hcode).2 hlength.symm
  unfold decodeFrame
  rw [hcheck, hbytes]
  simp only [commandOfCode_commandCode, List.dropLast_concat, decodeBody_of_parts hparts]

/-- Settles O7: a sound frame is its code, sequence byte, length, body and check byte, and its body is
that of the row it is read as. -/
theorem aSoundFrameIsTheEncodingOfItsRow : Obligations.ASoundFrameIsTheEncodingOfItsRow := by
  intro p bytes bits i h
  unfold decodeFrame at h
  split at h
  · cases h
  next hcheck =>
    obtain ⟨hbits, code, seq, len, rest, c, rfl, hrest, hcode, hbody, hlast⟩ :=
      frameCheck_eq_none hcheck
    simp only [hcode] at h
    cases hdecode : decodeBody p seq c rest.dropLast with
    | none => simp [hdecode] at h
    | some j =>
      simp only [hdecode, Except.ok.injEq] at h
      subst h
      have hbodyLength : rest.dropLast.length = bodyLength c := by
        rw [List.length_dropLast, hrest, hbody, Nat.add_sub_cancel]
      refine ⟨hbits, c, seq, rest.dropLast, parts_of_decodeBody hbodyLength hdecode, ?_⟩
      have hne : rest ≠ [] := by
        rintro rfl
        simp at hrest
      obtain ⟨body, last, rfl⟩ := List.eq_nil_or_concat rest |>.resolve_left hne
      have hlen : BitVec.ofNat 8 body.length = len := by
        have hlength : body.length = len.toNat := by simpa using hrest
        rw [hlength, BitVec.ofNat_toNat, BitVec.setWidth_eq]
      simp only [List.concat_eq_append, List.dropLast_concat] at hlast ⊢
      have hcrc : last = crc8 (code :: seq :: len :: body) := by
        have hconcat : code :: seq :: len :: (body ++ [last]) =
          (code :: seq :: len :: body) ++ [last] := rfl
        rwa [hconcat, List.dropLast_concat, List.getLastD_concat] at hlast
      rw [hcrc]
      simp [frameBytes, commandCode_of_commandOfCode hcode, hlen]

end Sys2Proof.Machine
end

section
/-! PROOFS. Chapters 01, 02, 04, 05, 07 and 09: what a unit byte and a leg byte name, what each status
command answers, and the statements O17 and O18. -/

namespace Sys2Proof.Machine

/-! ### Unit and leg bytes (R1, R167) -/

theorem index4_eq_some {b : Byte} {i : Fin 4} : index4 b = some i ↔ b.toNat = i.val := by
  refine ⟨fun h => ?_, index4_of_toNat_eq⟩
  unfold index4 at h
  split at h
  · injection h with h
    exact congrArg Fin.val h
  · cases h

theorem State.presentUnit_eq_some {s : State} {b : Byte} {u : UnitNo} :
    s.presentUnit b = some u ↔ s.names b u := by
  unfold State.presentUnit State.names
  rw [← index4_eq_some]
  cases index4 b with
  | none => simp
  | some v =>
    by_cases hv : s.present v = true
    · simp only [hv, if_true, Option.some.injEq]
      exact ⟨fun h => ⟨h, h ▸ hv⟩, And.left⟩
    · simp only [hv, Bool.false_eq_true, if_false, reduceCtorEq, Option.some.injEq, false_iff]
      rintro ⟨rfl, hpresent⟩
      exact hv hpresent

/-- A lease command on a present unit. -/
theorem onUnit_named {s : State} {b : Byte} {u : UnitNo} (h : s.names b u)
    (rest : UnitNo → Response) : onUnit s b rest = rest u := by
  rw [onUnit, State.presentUnit_eq_some.mpr h]

/-- A lease command that names no present unit. -/
theorem onUnit_unnamed {s : State} {b : Byte} (h : ∀ u, ¬ s.names b u)
    (rest : UnitNo → Response) : onUnit s b rest = refuse .noSuch := by
  have hnone : s.presentUnit b = none :=
    Option.eq_none_iff_forall_ne_some.mpr fun u hu => h u (State.presentUnit_eq_some.mp hu)
  rw [onUnit, hnone]

/-- A segment command on a leg. -/
theorem onLeg_named {b : Byte} {l : Leg} (h : b.toNat = l.val) (rest : Leg → Response) :
    onLeg b rest = rest l := by
  rw [onLeg, index4_of_toNat_eq h]

/-- A segment command that names no leg. -/
theorem onLeg_unnamed {b : Byte} (h : 4 ≤ b.toNat) (rest : Leg → Response) :
    onLeg b rest = refuse .noSuch := by
  rw [onLeg, index4_of_le h]

/-! ### Bytes of flags (R170) -/

theorem ite_getLsbD (b : Bool) (c : Byte) (k : Nat) :
    (if b then c else 0).getLsbD k = (b && c.getLsbD k) := by
  cases b <;> simp

/-- R170: bit n of a byte of flags stands for Sn. -/
theorem flagsByte_getLsbD (f : Eight Bool) (n : SenseNo) :
    (flagsByte f).getLsbD n.val = f.get n := by
  unfold flagsByte
  simp only [BitVec.getLsbD_or, ite_getLsbD]
  fin_cases n <;> simp [Eight.get]

/-! ### The data of the status commands -/

theorem resetCauseByte_eq (c : ResetCause) :
    resetCauseByte c = if c = .pin then 0x01 else 0x00 := by
  cases c <;> rfl

theorem phaseByte_eq (c : Phase) : phaseByte c = if c = .run then 0x01 else 0x00 := by
  cases c <;> rfl

theorem levelByte_eq (v : Level) : levelByte v = if v = .high then 0x01 else 0x00 := by
  cases v <;> rfl

/-- R5, R23: the holder that UNIT_STATUS reports. -/
theorem UnitRec.holder_eq (r : UnitRec) :
    r.holder = if r.lease = .held then r.owner
      else if r.lease = .releasing then r.releasing else none := by
  unfold UnitRec.holder
  cases r.lease <;> rfl

/-- R110: the trip record of a NORMAL unit. -/
theorem readTripData_normal {t : TripRec} (h : t.info = none) (fault : Level) :
    readTripData t fault = [0x00, 0xFF, 0, 0, 0, 0, 0x00, 0x00, 0xFF, 0x00, yesNo t.laterExternal,
      t.laterSenses, levelByte fault] := by
  rw [readTripData, h]
  rfl

/-- R110: the trip record of a TRIPPED unit. -/
theorem readTripData_tripped {t : TripRec} {info : TripInfo} (h : t.info = some info)
    (fault : Level) :
    readTripData t fault = [causeByte (some info.cause), numOrNone info.leg] ++
      stampBytes info.stamp ++ optTag info.tag ++ [numOrNone info.owner, num1 info.discarded,
        yesNo t.laterExternal, t.laterSenses, levelByte fault] := by
  rw [readTripData, h]
  simp [tripInfoData]

/-- R51: LEG_STATUS of an IDLE leg. -/
theorem legStatusData_idle {q : LegSeq} (h : q.active = none) :
    legStatusData q = [num1 q.queue.length, 0x00, 0, 0, 0, 0, num1 q.escalation] ++
      (q.queue.take 13).map Segment.tag := by
  simp [legStatusData, LegSeq.state, LegSeq.activeTag, progressData, seqStateNum, num2, halfBytes,
    h]

/-- R51: LEG_STATUS of a GATED leg. -/
theorem legStatusData_gated {q : LegSeq} {a : Active} (h : q.active = some a) (hg : a.gate ≠ none) :
    legStatusData q = [num1 (64 + q.queue.length), a.seg.tag, 0, 0] ++ num2 a.onTime ++
      [num1 q.escalation] ++ (q.queue.take 13).map Segment.tag := by
  have hgate : a.gate.isSome = true := Option.isSome_iff_ne_none.mpr hg
  simp [legStatusData, LegSeq.state, LegSeq.activeTag, progressData, seqStateNum, num2, halfBytes,
    h, hgate]

/-- R51: LEG_STATUS of a RUNNING leg. -/
theorem legStatusData_running {q : LegSeq} {a : Active} (h : q.active = some a)
    (hg : a.gate = none) :
    legStatusData q = [num1 (128 + q.queue.length), a.seg.tag] ++ num2 a.completed ++
      num2 a.onTime ++ [num1 q.escalation] ++ (q.queue.take 13).map Segment.tag := by
  simp [legStatusData, LegSeq.state, LegSeq.activeTag, progressData, seqStateNum, h, hg]

/-! ### The statements -/

/-- Settles O17: the three answers read the part's records and nothing of the ports. -/
theorem statusCommandsReportThePart : Obligations.StatusCommandsReportThePart := by
  refine ⟨fun p seq s htake => reports_of_response rfl htake fun _ => rfl, fun p seq s =>
    ⟨fun htake => ?ident, fun htake => ?senses⟩⟩
  case ident =>
    refine reports_of_response rfl htake fun P => ?_
    rw [← resetCauseByte_eq, ← phaseByte_eq, ← levelByte_eq]
    rfl
  case senses =>
    refine ⟨_, _, _, reports_of_response (data := senseStatusData s.senses) rfl htake fun _ => rfl,
      fun n => ?_⟩
    exact ⟨(flagsByte_getLsbD _ n).trans (Eight.get_mapIdx ..),
      (flagsByte_getLsbD _ n).trans (Eight.get_mapIdx ..),
      (flagsByte_getLsbD _ n).trans (Eight.get_mapIdx ..)⟩

/-- Settles O18: a status command of a unit answers for the present unit that its byte names, one of a
leg for the leg that its byte names. -/
theorem statusCommandsReportUnitsTripsAndLegs :
    Obligations.StatusCommandsReportUnitsTripsAndLegs := by
  refine ⟨fun p seq unit s => ⟨fun hnone => ⟨fun htake => ?noUnit, fun htake => ?noTrip⟩,
    fun u hu => ⟨fun htake => ?unit, fun htake => ⟨fun hinfo => ?normal, fun info hinfo => ?trip⟩⟩⟩,
    fun p seq leg s htake => ⟨fun hleg => ?noLeg, fun l hl =>
      ⟨fun hq => ?idle, fun a hq hg => ?gated, fun a hq hg => ?running⟩⟩⟩
  case noUnit => exact refuses_of_response rfl htake fun _ => onUnit_unnamed hnone _
  case noTrip => exact refuses_of_response rfl htake fun _ => onUnit_unnamed hnone _
  case unit =>
    refine reports_of_response rfl htake fun P => (onUnit_named hu _).trans ?_
    rw [← UnitRec.holder_eq]
    rfl
  case normal =>
    exact reports_of_response rfl htake fun P =>
      (onUnit_named hu _).trans (congrArg report (readTripData_normal hinfo _))
  case trip =>
    exact reports_of_response rfl htake fun P =>
      (onUnit_named hu _).trans (congrArg report (readTripData_tripped hinfo _))
  case noLeg => exact refuses_of_response rfl htake fun _ => onLeg_unnamed hleg _
  case idle =>
    exact reports_of_response rfl htake fun P =>
      (onLeg_named hl _).trans (congrArg report (legStatusData_idle hq))
  case gated =>
    exact reports_of_response rfl htake fun P =>
      (onLeg_named hl _).trans (congrArg report (legStatusData_gated hq hg))
  case running =>
    exact reports_of_response rfl htake fun P =>
      (onLeg_named hl _).trans (congrArg report (legStatusData_running hq hg))

end Sys2Proof.Machine
end

section
/-! PROOFS. Chapter 08: who may write the board table, what bytes each of its groups is read from, and
the statements O22, O23 and O24. -/

namespace Sys2Proof.Machine

/-! ### The checks that every writing command shares (R138) -/

theorem asHolder_run (p : Port) {s : State} (h : s.setup.phase = .run) (rest : Response) :
    asHolder p s rest = refuse .notSetup := by
  simp [asHolder, h]

theorem asHolder_other {p : Port} {s : State} (h : s.setup.phase = .setup)
    (hp : s.setup.holder ≠ some p) (rest : Response) :
    asHolder p s rest = refuse .notHolder := by
  simp [asHolder, h, hp]

theorem asHolder_holder {p : Port} {s : State} (h : s.setup.phase = .setup)
    (hp : s.setup.holder = some p) (rest : Response) : asHolder p s rest = rest := by
  simp [asHolder, h, hp]

/-- R135: the inactivity timer of the lock at its load value. -/
def State.reloaded (s : State) : State := { s with setup := { s.setup with inactivity := 2000 } }

/-- R135: the timer of the lock is reloaded for its holder. -/
theorem State.setLock_of_holder {s : State} {p : Port} (h : s.setup.holder = some p) :
    s.setLock (some p) Config.lockLimit = s.reloaded := by
  rw [State.setLock, ← h]
  rfl

/-- Settles O22: the seven commands answer nothing but for the lock holder in SETUP. -/
theorem onlyTheHolderWritesTheTable : Obligations.OnlyTheHolderWritesTheTable := by
  intro i p c seq body s hparts hc htake
  have hne : c ≠ .portReset := by
    rintro rfl
    simp at hc
  have hholder : ∃ rest : State → Response, ∀ s, respondOf i s = asHolder p s (rest s) := by
    cases i <;> simp only [commandParts, Option.some.injEq, Prod.mk.injEq, reduceCtorEq] at hparts
    all_goals obtain ⟨rfl, rfl, -, -⟩ := hparts
    case setUnitMap | setLeg | setUnit | setSense | setSupervisor | setSupply | commit =>
      exact ⟨_, fun _ => rfl⟩
    all_goals simp at hc
  obtain ⟨rest, hrest⟩ := hholder
  exact ⟨fun hrun => refuses_of_response (exec_command hparts hne s) htake fun _ =>
      (hrest _).trans (asHolder_run p hrun _),
    fun hsetup hp => refuses_of_response (exec_command hparts hne s) htake fun _ =>
      (hrest _).trans (asHolder_other hsetup hp _)⟩

/-! ### Choice bytes (R167) -/

theorem kindOf_eq_some {b : Byte} {k : LegKind} : kindOf b = some k ↔ b = kindByte k := by
  constructor
  · unfold kindOf
    split_ifs <;> rintro ⟨⟩ <;> assumption
  · rintro rfl
    cases k <;> rfl

theorem idleOf_eq_some {b : Byte} {v : IdleLevel} : idleOf b = some v ↔ b = idleByte v := by
  constructor
  · unfold idleOf
    split_ifs <;> rintro ⟨⟩ <;> assumption
  · rintro rfl
    cases v <;> rfl

theorem actionOf_eq_some {b : Byte} {a : Action} : actionOf b = some a ↔ b = actionByte a := by
  constructor
  · unfold actionOf
    split_ifs <;> rintro ⟨⟩ <;> assumption
  · rintro rfl
    cases a <;> rfl

theorem polarityOf_eq_some {b : Byte} {o : Polarity} :
    polarityOf b = some o ↔ b = polarityByte o := by
  constructor
  · unfold polarityOf
    split_ifs <;> rintro ⟨⟩ <;> assumption
  · rintro rfl
    cases o <;> rfl

theorem windowOf_eq_some {b : Byte} {w : Window} : windowOf b = some w ↔ b = windowByte w := by
  constructor
  · unfold windowOf
    split_ifs <;> rintro ⟨⟩ <;> assumption
  · rintro rfl
    cases w <;> rfl

theorem kindByte_le (k : LegKind) : (kindByte k).toNat ≤ 2 := by cases k <;> decide
theorem idleByte_le (v : IdleLevel) : (idleByte v).toNat ≤ 1 := by cases v <;> decide
theorem actionByte_le (a : Action) : (actionByte a).toNat ≤ 3 := by cases a <;> decide
theorem polarityByte_le (o : Polarity) : (polarityByte o).toNat ≤ 1 := by cases o <;> decide
theorem windowByte_le (w : Window) : (windowByte w).toNat ≤ 2 := by cases w <;> decide

/-! ### Reading the groups (R139 to R143) -/

theorem readUnitMap_eq {u0 u1 u2 u3 : Byte} {m : Four UnitNo} (h0 : u0.toNat = m.e0.val)
    (h1 : u1.toNat = m.e1.val) (h2 : u2.toNat = m.e2.val) (h3 : u3.toNat = m.e3.val) :
    readUnitMap u0 u1 u2 u3 = some m := by
  rw [readUnitMap, index4_of_toNat_eq h0, index4_of_toNat_eq h1, index4_of_toNat_eq h2,
    index4_of_toNat_eq h3]

theorem readUnitMap_none {u0 u1 u2 u3 : Byte}
    (h : 4 ≤ u0.toNat ∨ 4 ≤ u1.toNat ∨ 4 ≤ u2.toNat ∨ 4 ≤ u3.toNat) :
    readUnitMap u0 u1 u2 u3 = none := by
  unfold readUnitMap
  split
  next a b c d ha hb hc hd =>
    rw [index4_eq_some] at ha hb hc hd
    omega
  · rfl

theorem readLegEntry_eq {kind idle low esc : Byte} {dt minOn maxOn : Half} {k : LegKind}
    {v : IdleLevel} (hkind : kind = kindByte k) (hidle : idle = idleByte v) (hdt : dt.toNat ≤ 1023)
    (hmin : 1 ≤ minOn.toNat) (hmax : 1 ≤ maxOn.toNat) (hlow : low.toNat ≤ 15)
    (hesc : esc.toNat ≤ 15) :
    readLegEntry kind dt minOn maxOn idle low esc = some
      { kind := k, dt := dt.toNat, minOn := minOn.toNat, maxOn := maxOn.toNat, idle := v
        lowWater := low.toNat, escalation := esc.toNat } := by
  rw [readLegEntry, kindOf_eq_some.mpr hkind, idleOf_eq_some.mpr hidle]
  exact if_pos ⟨hdt, hmin, hmax, hlow, hesc⟩

theorem readLegEntry_none {kind idle low esc : Byte} {dt minOn maxOn : Half}
    (h : ¬ (kind.toNat ≤ 2 ∧ dt.toNat ≤ 1023 ∧ 1 ≤ minOn.toNat ∧ 1 ≤ maxOn.toNat ∧
      idle.toNat ≤ 1 ∧ low.toNat ≤ 15 ∧ esc.toNat ≤ 15)) :
    readLegEntry kind dt minOn maxOn idle low esc = none := by
  unfold readLegEntry
  split
  next k v hkind hidle =>
    obtain rfl := kindOf_eq_some.mp hkind
    obtain rfl := idleOf_eq_some.mp hidle
    refine if_neg fun ⟨hdt, hmin, hmax, hlow, hesc⟩ =>
      h ⟨kindByte_le k, hdt, hmin, hmax, idleByte_le v, hlow, hesc⟩
  · rfl

/-- R167: a set of ports is read bit by bit. -/
theorem portSetOf_eq {b : Byte} (h : b.toNat ≤ 15) :
    portSetOf b = some (Four.tabulate fun k => b.getLsbD k.val) := if_pos (Nat.lt_succ_of_le h)

theorem portSetOf_le {b : Byte} {a : Four Bool} (h : portSetOf b = some a) : b.toNat ≤ 15 := by
  unfold portSetOf at h
  split at h
  next hlt => exact Nat.le_of_lt_succ hlt
  · cases h

theorem readUnitEntry_eq {allowed : Byte} {quiet maxLease : Half} (ha : allowed.toNat ≤ 15)
    (hquiet : quiet.toNat ≤ 50000) (hmin : 10 ≤ maxLease.toNat) (hmax : maxLease.toNat ≤ 60000) :
    readUnitEntry allowed quiet maxLease = some
      { allowed := Four.tabulate fun k => allowed.getLsbD k.val
        quiet := quiet.toNat, maxLease := maxLease.toNat } := by
  rw [readUnitEntry, portSetOf_eq ha]
  exact if_pos ⟨hquiet, hmin, hmax⟩

theorem readUnitEntry_none {allowed : Byte} {quiet maxLease : Half}
    (h : ¬ (allowed.toNat ≤ 15 ∧ quiet.toNat ≤ 50000 ∧ 10 ≤ maxLease.toNat ∧
      maxLease.toNat ≤ 60000)) : readUnitEntry allowed quiet maxLease = none := by
  unfold readUnitEntry
  split
  next a ha => exact if_neg fun hrest => h ⟨portSetOf_le ha, hrest⟩
  · rfl

theorem readSenseEntry_eq {action target code polarity window blank qualify : Byte} {a : Action}
    {l : Leg} {o : Polarity} {w : Window} (ha : action = actionByte a) (hl : target.toNat = l.val)
    (ho : polarity = polarityByte o) (hw : window = windowByte w) (hcode : code.toNat ≤ 63)
    (hmin : 1 ≤ qualify.toNat) (hmax : qualify.toNat ≤ 16) :
    readSenseEntry action target code polarity window blank qualify = some
      { action := a, target := l, threshold := code.toNat, polarity := o, window := w
        blank := blank.toNat, qualify := qualify.toNat } := by
  rw [readSenseEntry, actionOf_eq_some.mpr ha, index4_of_toNat_eq hl, polarityOf_eq_some.mpr ho,
    windowOf_eq_some.mpr hw]
  exact if_pos ⟨hcode, hmin, hmax⟩

theorem readSenseEntry_none {action target code polarity window blank qualify : Byte}
    (h : ¬ (action.toNat ≤ 3 ∧ target.toNat ≤ 3 ∧ code.toNat ≤ 63 ∧ polarity.toNat ≤ 1 ∧
      window.toNat ≤ 2 ∧ 1 ≤ qualify.toNat ∧ qualify.toNat ≤ 16)) :
    readSenseEntry action target code polarity window blank qualify = none := by
  unfold readSenseEntry
  split
  next a l o w ha hl ho hw =>
    obtain rfl := actionOf_eq_some.mp ha
    obtain rfl := polarityOf_eq_some.mp ho
    obtain rfl := windowOf_eq_some.mp hw
    have htarget : target.toNat ≤ 3 := index4_eq_some.mp hl ▸ Nat.le_of_lt_succ l.isLt
    exact if_neg fun ⟨hcode, hmin, hmax⟩ =>
      h ⟨actionByte_le a, htarget, hcode, polarityByte_le o, windowByte_le w, hmin, hmax⟩
  · rfl

theorem readSupervisor_none : readSupervisor 0xFF = some none := rfl

theorem readSupervisor_port {v : Byte} {k : Port} (h : v.toNat = k.val) :
    readSupervisor v = some (some k) := by
  have hne : v ≠ 0xFF := by
    rintro rfl
    exact absurd k.isLt (by rw [← h]; decide)
  rw [readSupervisor, if_neg hne, index4_of_toNat_eq h]
  rfl

theorem readSupervisor_range {v : Byte} (h : 4 ≤ v.toNat) (hne : v ≠ 0xFF) :
    readSupervisor v = none := by
  rw [readSupervisor, if_neg hne, index4_of_le h]
  rfl

theorem readSettle_zero : readSettle 0x00 = none := rfl

theorem readSettle_pos {v : Byte} (h : v ≠ 0x00) : readSettle v = some v.toNat :=
  if_neg fun hzero => h (BitVec.eq_of_toNat_eq hzero)

/-! ### What the lock holder's writing comes to -/

/-- R138: a value out of range is refused. -/
theorem writeOrRange_none {α : Type} (p : Port) {v : Option α} (h : v = none)
    (write : α → State → State) : writeOrRange p v write = refuse .range := by
  subst h
  rfl

/-- R138: a value in range is written. -/
theorem writeOrRange_some {α : Type} (p : Port) {v : Option α} {x : α} (h : v = some x)
    (write : α → State → State) : writeOrRange p v write = written p (write x) := by
  subst h
  rfl

section Holder

variable {i : Instr} {s : State} {p : Port} {c : Command} {seq : Byte}
  {respond : State → Response} {body : State → Response}

/-- A refusal of the lock holder. -/
theorem refuses_holder {result : Result}
    (hexec : exec i s = .next (s.command p c seq fun s => asHolder p s (body s)))
    (htake : s.canTake p c) (hsetup : s.setup.phase = .setup) (hp : s.setup.holder = some p)
    (h : ∀ P : Four PortRec, body { s with ports := P } = refuse result) :
    Refuses i s p c seq result :=
  refuses_of_response hexec htake fun P => (asHolder_holder hsetup hp _).trans (h P)

/-- A group that the lock holder writes; the timer is reloaded. -/
theorem writes_holder {s' : State} {write : State → State}
    (hexec : exec i s = .next (s.command p c seq fun s => asHolder p s (body s)))
    (htake : s.canTake p c) (hsetup : s.setup.phase = .setup) (hp : s.setup.holder = some p)
    (h : ∀ P : Four PortRec, body { s with ports := P } = written p write)
    (hkeep : ∀ t, (write t).setup.holder = t.setup.holder)
    (hwrite : ∀ Q : Four PortRec,
      (write { s with ports := Q }).reloaded = { s' with ports := Q }) :
    Completes i s p c seq .ok [] s' :=
  completes_of_response hexec htake (fun P => (asHolder_holder hsetup hp _).trans (h P)) fun Q =>
    (State.setLock_of_holder ((hkeep { s with ports := Q }).trans hp)).trans (hwrite Q)

end Holder

/-- R139: the unit map written. -/
theorem State.setUnitMap_eq (s : State) (m : Four UnitNo) :
    s.setUnitMap m = { s with
      setup := { s.setup with board := { s.setup.board with unitMap := m } }
      units := s.units.mapIdx fun u r =>
        if s.present u ∧ unitPresent m u then r else UnitRec.reset
      trips := s.trips.mapIdx fun u t =>
        if s.present u ∧ unitPresent m u then t else TripRec.reset } := by
  simp only [State.setUnitMap, Bool.and_eq_true]

/-- Settles O23: the leg byte, then the values, then the writing. -/
theorem theHolderWritesMapAndLegs : Obligations.TheHolderWritesMapAndLegs := by
  intro p seq s hsetup hp
  refine ⟨fun u0 u1 u2 u3 htake => ⟨fun hrange => ?mapRange, fun m h0 h1 h2 h3 => ?map⟩,
    fun leg kind dt minOn maxOn idle low esc htake => ⟨fun hleg => ?noLeg,
      fun hleg hfits => ?legRange, fun l k v hleg hfits hkind hidle => ?leg⟩⟩
  case mapRange =>
    exact refuses_holder rfl htake hsetup hp fun _ =>
      writeOrRange_none p (readUnitMap_none hrange) _
  case map =>
    exact writes_holder rfl htake hsetup hp
      (fun _ => writeOrRange_some p (readUnitMap_eq h0 h1 h2 h3) _)
      (fun _ => rfl) fun Q => congrArg State.reloaded (State.setUnitMap_eq _ m)
  case noLeg =>
    exact refuses_holder rfl htake hsetup hp fun _ => by rw [index4_of_le hleg]
  case legRange =>
    exact refuses_holder rfl htake hsetup hp fun _ => by
      rw [index4_of_toNat_eq (i := ⟨leg.toNat, hleg⟩) rfl]
      exact writeOrRange_none p (readLegEntry_none hfits) _
  case leg =>
    obtain ⟨-, hdt, hmin, hmax, -, hlow, hesc⟩ := hfits
    refine writes_holder (write := (State.setLegEntry · l _)) rfl htake hsetup hp (fun _ => ?_)
      (fun _ => rfl) fun Q => rfl
    rw [index4_of_toNat_eq hleg]
    exact writeOrRange_some p (readLegEntry_eq hkind hidle hdt hmin hmax hlow hesc) _

/-- Settles O24: the index byte where there is one, then the values, then the writing. -/
theorem theHolderWritesTheOtherGroups : Obligations.TheHolderWritesTheOtherGroups := by
  refine ⟨fun p seq s hsetup hp => ⟨fun unit allowed quiet maxLease htake => ⟨fun hunit => ?noUnit,
      fun hunit hfits => ?unitRange, fun u hunit hfits => ?unit⟩,
    fun sense action target code polarity window blank qualify htake => ⟨fun hn => ?noSense,
      fun hn hfits => ?senseRange, fun n a l o w hn hfits ha hl ho hw => ?sense⟩⟩,
    fun p seq v s hsetup hp => ⟨fun htake => ⟨?noPort, fun k hk => ?port, fun hv hne => ?portRange⟩,
      fun htake => ⟨?noSettle, fun hne => ?settle⟩⟩⟩
  case noUnit =>
    exact refuses_holder rfl htake hsetup hp fun _ => by rw [index4_of_le hunit]
  case unitRange =>
    exact refuses_holder rfl htake hsetup hp fun _ => by
      rw [index4_of_toNat_eq (i := ⟨unit.toNat, hunit⟩) rfl]
      exact writeOrRange_none p (readUnitEntry_none hfits) _
  case unit =>
    obtain ⟨ha, hquiet, hmin, hmax⟩ := hfits
    refine writes_holder (write := (State.setUnitEntry · u _)) rfl htake hsetup hp (fun _ => ?_)
      (fun _ => rfl) fun Q => rfl
    rw [index4_of_toNat_eq hunit]
    exact writeOrRange_some p (readUnitEntry_eq ha hquiet hmin hmax) _
  case noSense =>
    exact refuses_holder rfl htake hsetup hp fun _ => by rw [index8_of_le hn]
  case senseRange =>
    exact refuses_holder rfl htake hsetup hp fun _ => by
      rw [index8_of_toNat_eq (i := ⟨sense.toNat, hn⟩) rfl]
      exact writeOrRange_none p (readSenseEntry_none hfits) _
  case sense =>
    obtain ⟨-, -, hcode, -, -, hmin, hmax⟩ := hfits
    refine writes_holder (write := (State.setSenseEntry · n _)) rfl htake hsetup hp (fun _ => ?_)
      (fun _ => rfl) fun Q => rfl
    rw [index8_of_toNat_eq hn]
    exact writeOrRange_some p (readSenseEntry_eq ha hl ho hw hcode hmin hmax) _
  case noPort =>
    rintro rfl
    exact writes_holder rfl htake hsetup hp
      (fun _ => writeOrRange_some p readSupervisor_none _) (fun _ => rfl) fun Q => rfl
  case port =>
    exact writes_holder rfl htake hsetup hp
      (fun _ => writeOrRange_some p (readSupervisor_port hk) _) (fun _ => rfl) fun Q => rfl
  case portRange =>
    exact refuses_holder rfl htake hsetup hp fun _ =>
      writeOrRange_none p (readSupervisor_range hv hne) _
  case noSettle =>
    rintro rfl
    exact refuses_holder rfl htake hsetup hp fun _ => writeOrRange_none p readSettle_zero _
  case settle =>
    exact writes_holder rfl htake hsetup hp
      (fun _ => writeOrRange_some p (readSettle_pos hne) _) (fun _ => rfl) fun Q => rfl

end Sys2Proof.Machine
end

section
/-! PROOFS. Chapter 08, COMMIT: the first fault of the table is the first condition that fails, and
the statement O25. -/

namespace Sys2Proof.Machine

/-! ### The conditions put to a table (R145) -/

/-- The item of a condition that fails. -/
def brokenItem (c : List Byte × Bool) : Option (List Byte) := if c.2 then none else some c.1

theorem brokenItem_eq_none {c : List Byte × Bool} : brokenItem c = none ↔ c.2 = true := by
  unfold brokenItem
  split <;> simp_all

theorem brokenItem_eq_some {c : List Byte × Bool} {item : List Byte} :
    brokenItem c = some item ↔ c = (item, false) := by
  obtain ⟨x, b⟩ := c
  cases b <;> simp [brokenItem]

theorem findSome?_condition (item : List Byte) (b : Bool) (cs : List (List Byte × Bool)) :
    ((item, b) :: cs).findSome? brokenItem =
      if b = true then cs.findSome? brokenItem else some item := by
  cases b <;> rfl

/-- What a fault is answered with. -/
def TableFault.data (f : TableFault) : List Byte := [f.kind, f.index, f.reason]

theorem findSome?_flatMap {α β γ : Type} (f : β → Option γ) (g : α → List β) (xs : List α) :
    (xs.flatMap g).findSome? f = xs.findSome? fun x => (g x).findSome? f := by
  induction xs with
  | nil => rfl
  | cons x xs ih =>
    rw [List.flatMap_cons, List.findSome?_append, ih, List.findSome?_cons]
    cases (g x).findSome? f <;> rfl

/-- A check of several items finds the first condition that fails among theirs. -/
theorem firstFault_data {n : Nat} (kind : Byte) (items : List (Fin n))
    (reason : Fin n → Option Byte) (checks : Fin n → List (List Byte × Bool))
    (h : ∀ i, (checks i).findSome? brokenItem =
      (reason i).map fun r => [kind, BitVec.ofNat 8 i.val, r]) :
    (firstFault kind items reason).map TableFault.data =
      (items.flatMap checks).findSome? brokenItem := by
  rw [findSome?_flatMap, firstFault, List.map_findSome?]
  congr 1
  funext i
  rw [h i, Function.comp_apply, Option.map_map]
  rfl

theorem hasHigh_eq_false {k : LegKind} : hasHigh k = false ↔ k = .lowSide := by
  cases k <;> simp [hasHigh]

theorem hasLow_eq_false {k : LegKind} : hasLow k = false ↔ k = .highSide := by
  cases k <;> simp [hasLow]

/-- R145 check 1. -/
theorem legChecks_broken (e : LegEntry) (i : Byte) :
    [([0x00, i, 1], decide (e.minOn ≤ e.maxOn)),
      ([0x00, i, 2], decide (e.kind = .halfBridge → 4 ≤ e.dt)),
      ([0x00, i, 3], decide (e.idle = .low → e.kind ≠ .highSide))].findSome? brokenItem =
        (legReason e).map fun r => [0x00, i, r] := by
  simp only [findSome?_condition, List.findSome?_nil, legReason, hasLow_eq_false, decide_eq_true_eq]
  split_ifs <;> grind

theorem Four.eq_false_iff (a : Four Bool) :
    a = ⟨false, false, false, false⟩ ↔ ¬ ∃ p : Port, a.get p = true := by
  refine ⟨?_, fun h => Four.ext_get _ _ fun i => ?_⟩
  · rintro rfl ⟨p, hp⟩
    fin_cases p <;> cases hp
  · have hget : a.get i = false := Bool.not_eq_true _ ▸ fun hi => h ⟨i, hi⟩
    rw [hget]
    fin_cases i <;> rfl

/-- R145 check 2. -/
theorem unitChecks_broken (e : UnitEntry) (present : Bool) (i : Byte) :
    [([0x01, i, 4], decide (present = true → ∃ p : Port, e.allowed.get p = true))].findSome?
        brokenItem = (unitReason e present).map fun r => [0x01, i, r] := by
  simp only [List.findSome?_cons, List.findSome?_nil, brokenItem, unitReason, Four.eq_false_iff,
    decide_eq_true_eq]
  by_cases h : present = true → ∃ p : Port, e.allowed.get p = true
  · have h' : ¬ (present = true ∧ ¬ ∃ p : Port, e.allowed.get p = true) := fun ⟨hp, hn⟩ => hn (h hp)
    rw [if_pos h, if_neg h']
    rfl
  · rw [if_neg h, if_pos (Classical.not_imp.mp h)]
    rfl

/-- R145 check 3. -/
theorem senseChecks_broken (e : SenseEntry) (k : LegKind) (i : Byte) :
    [([0x02, i, 5], decide (e.action ≠ .none → e.window = .highOn → k ≠ .lowSide)),
      ([0x02, i, 6], decide (e.action ≠ .none → e.window = .lowOn → k ≠ .highSide)),
      ([0x02, i, 7], decide (e.action = .cycle → e.window = .highOn))].findSome? brokenItem =
        (senseReason e k).map fun r => [0x02, i, r] := by
  simp only [findSome?_condition, List.findSome?_nil, senseReason, hasLow_eq_false, hasHigh_eq_false,
    decide_eq_true_eq]
  split_ifs <;> grind

/-- R145: the fault that COMMIT finds is the first condition that fails. -/
theorem tableFault_data (b : Board) :
    (tableFault b).map TableFault.data = (tableChecks b).findSome? brokenItem := by
  have hpart : (if four.any (unitPresent b.unitMap) then none
      else some (⟨0x03, 0x00, 8⟩ : TableFault)).map TableFault.data =
        [([0x03, 0x00, 8], decide (∃ u : UnitNo, unitPresent b.unitMap u = true))].findSome?
          brokenItem := by
    have hany : four.any (unitPresent b.unitMap) = true ↔
        ∃ u : UnitNo, unitPresent b.unitMap u = true := by
      simp [Four.mem_four]
    by_cases h : ∃ u : UnitNo, unitPresent b.unitMap u = true
    · rw [if_pos (hany.mpr h)]
      simp [brokenItem, h]
    · rw [if_neg (hany.not.mpr h)]
      simp only [List.findSome?_cons, brokenItem, decide_eq_true_eq, if_neg h]
      rfl
  unfold tableFault tableChecks
  simp only [List.findSome?_append, List.map_eq_flatMap, ← hpart, numByte]
  rw [← firstFault_data 0x00 four (fun l => legReason (b.legs.get l)) _
      fun l => legChecks_broken (b.legs.get l) _,
    ← firstFault_data 0x01 four
      (fun u => unitReason (b.units.get u) (unitPresent b.unitMap u)) _
      fun u => unitChecks_broken (b.units.get u) (unitPresent b.unitMap u) _,
    ← firstFault_data 0x02 eight
      (fun n => senseReason (b.senses.get n) (b.legs.get (b.senses.get n).target).kind) _
      fun n => senseChecks_broken (b.senses.get n) (b.legs.get (b.senses.get n).target).kind _]
  cases firstFault 0x00 four fun l => legReason (b.legs.get l) with
  | some f => rfl
  | none =>
    cases firstFault 0x01 four
      fun u => unitReason (b.units.get u) (unitPresent b.unitMap u) with
    | some f => rfl
    | none =>
      cases firstFault 0x02 eight
        fun n => senseReason (b.senses.get n) (b.legs.get (b.senses.get n).target).kind <;> rfl

/-- R145: a sound table has no fault. -/
theorem tableFault_of_sound {b : Board} (h : tableSound b) : tableFault b = none := by
  have hnone : (tableChecks b).findSome? brokenItem = none :=
    List.findSome?_eq_none_iff.mpr fun c hc => brokenItem_eq_none.mpr (h c hc)
  rwa [← tableFault_data, Option.map_eq_none_iff] at hnone

/-- R145: the fault of an unsound table, with the conditions that hold before it. -/
theorem tableFault_of_unsound {b : Board} (h : ¬ tableSound b) :
    ∃ f before after, tableFault b = some f ∧
      tableChecks b = before ++ (f.data, false) :: after ∧ ∀ c ∈ before, c.2 = true := by
  cases hfault : tableFault b with
  | none =>
    have hnone : (tableChecks b).findSome? brokenItem = none := by
      rw [← tableFault_data, hfault]
      rfl
    exact absurd (fun c hc =>
      brokenItem_eq_none.mp (List.findSome?_eq_none_iff.mp hnone c hc)) h
  | some f =>
    have hsome : (tableChecks b).findSome? brokenItem = some f.data := by
      rw [← tableFault_data, hfault]
      rfl
    obtain ⟨before, c, after, hchecks, hbroken, hbefore⟩ := List.findSome?_eq_some_iff.mp hsome
    obtain rfl := brokenItem_eq_some.mp hbroken
    exact ⟨f, before, after, rfl, hchecks, fun c hc => brokenItem_eq_none.mp (hbefore c hc)⟩

/-! ### A command that is carried out with notices (R155) -/

/-- R155: an answer whose effect, whatever the port records are, sends the notices `ns` and leads to
`s'`, is what the row comes to. -/
theorem completesTelling_of_response {i : Instr} {s s' : State} {p : Port} {c : Command}
    {seq : Byte} {respond : State → Response} {result : Result} {data : List Byte}
    {effect : State → State} {ns : Port → List Notice}
    (hexec : exec i s = .next (s.command p c seq respond)) (htake : s.canTake p c)
    (hresp : ∀ P : Four PortRec, respond { s with ports := P } = ⟨result, data, effect⟩)
    (heff : ∀ Q : Four PortRec, effect { s with ports := Q } =
      { s' with ports := ({ s with ports := Q } : State).told ns }) :
    CompletesTelling i s p c seq result data s' ns := by
  unfold CompletesTelling
  rw [hexec]
  congr 1
  refine s.command_completes s' p c seq respond result data ns htake fun P => ?_
  rw [hresp P]
  exact ⟨rfl, rfl, heff⟩

/-! ### The beginning of RUN (R103, R146) -/

theorem State.enterRun_trip (s : State) (u : UnitNo) :
    s.enterRun.trip u = if s.present u then TripRec.reset else s.trip u := Four.get_mapIdx ..

theorem State.enterRun_unit (s : State) (u : UnitNo) :
    s.enterRun.unit u = if s.present u then UnitRec.reset else s.unit u := Four.get_mapIdx ..

theorem State.faultCheck_high {s : State} (h : s.faultN = .high) : s.faultCheck = s := by
  simp [State.faultCheck, h]

theorem State.faultCheck_low {s : State} (h : s.faultN = .low) : s.faultCheck = s.tripAll := by
  simp [State.faultCheck, h]

theorem LegSeq.idleEmpty_iff {q : LegSeq} : q.idleEmpty = true ↔ q.active = none ∧ q.queue = [] := by
  simp [LegSeq.idleEmpty]

/-- R98: a unit whose legs are all IDLE and empty has nothing to discard. -/
theorem State.unitDiscards_idle {s : State} (h : ∀ l : Leg, (s.seq l).idleEmpty = true)
    (u : UnitNo) : s.unitDiscards u = 0 := by
  rw [State.unitDiscards_eq, List.sum_eq_zero]
  intro n hn
  obtain ⟨l, -, rfl⟩ := List.mem_map.mp hn
  obtain ⟨hactive, hqueue⟩ := LegSeq.idleEmpty_iff.mp (h l)
  simp [hactive, hqueue]

/-- R103: with FAULT_N low every present unit trips as RUN begins, when every leg is IDLE and
empty. -/
theorem State.enterRun_tripAll {s : State} (hidle : ∀ l : Leg, (s.seq l).idleEmpty = true) :
    s.enterRun.tripAll = { s.enterRun with
      trips := s.trips.mapIdx fun u t =>
        if s.present u then
          { info := some
              { cause := .external, leg := none, stamp := s.time.stamp, tag := none
                owner := none, discarded := 0 }
            laterSenses := 0, laterExternal := false }
        else t
      stages := s.stages.mapIdx fun l st => forceStage (s.legEntry l) st
      seqs := s.seqs.mapIdx fun _ q => q.flushed
      ports := s.told (toPort s.board.supervisor
        ((four.filter fun u => s.present u).map fun u => .tripped u .external none none 0)) } := by
  have hnormal (u : UnitNo) (hu : s.present u = true) : s.enterRun.trip u = TripRec.reset := by
    rw [s.enterRun_trip, if_pos hu]
  have hfree (u : UnitNo) (hu : s.present u = true) : s.enterRun.unit u = UnitRec.reset := by
    rw [s.enterRun_unit, if_pos hu]
  have hdiscards (u : UnitNo) : s.enterRun.unitDiscards u = 0 :=
    State.unitDiscards_idle (s := s.enterRun) hidle u
  refine State.ext_get ?_ (fun k => ?_) (fun u => ?_) (fun l => ?_) (fun l => ?_) (fun u => ?_)
  · rw [State.tripAll_eq]
    rfl
  · have hdrains : four.filter s.enterRun.externalDrains = [] := by
      refine List.filter_eq_nil_iff.mpr fun u _ hu => ?_
      obtain ⟨hp, -, hrel⟩ :=
        State.mem_externalDrains.mp (List.mem_filter.mpr ⟨Four.mem_four u, hu⟩)
      rw [hfree u hp] at hrel
      cases hrel
    have hstruck : (four.filter fun u =>
        s.enterRun.present u && (s.enterRun.trip u).info.isNone) =
          four.filter fun u => s.present u := by
      refine List.filter_congr fun u _ => ?_
      change (s.present u && (s.enterRun.trip u).info.isNone) = s.present u
      by_cases hu : s.present u = true
      · simp [hu, hnormal u hu, TripRec.reset]
      · simp [hu]
    have htold : s.enterRun.spellTold k = toPort s.board.supervisor
        ((four.filter fun u => s.present u).map fun u => .tripped u .external none none 0) k := by
      rw [State.spellTold, hdrains, hstruck, List.flatMap_nil, List.append_nil]
      have heach : ∀ u ∈ four.filter (fun u => s.present u),
          s.enterRun.tripTold u .external none k =
            if s.board.supervisor = some k then [.tripped u .external none none 0] else [] := by
        intro u hu
        have hu' := hfree u (List.mem_filter.mp hu).2
        simp only [State.tripTold, hu', hdiscards]
        simp [toBoth, UnitRec.reset, UnitRec.holder]
        rfl
      rw [List.flatMap_congr heach]
      by_cases hk : s.board.supervisor = some k
      · simp [toPort, hk, List.map_eq_flatMap]
      · simp [toPort, hk]
    rw [State.tripAll_port, htold]
    exact (State.told_get ..).symm
  · rw [State.tripAll_unit, if_neg]
    · rfl
    rintro ⟨hp, -, hrel⟩
    rw [hfree u hp] at hrel
    cases hrel
  · rw [State.tripAll_seq, if_pos (by
      rw [hnormal _ (s.enterRun.present_unitOf l)]
      rfl)]
    exact (Four.get_mapIdx s.seqs (fun _ q => q.flushed) l).symm
  · rw [State.tripAll_stage, if_pos (by
      rw [hnormal _ (s.enterRun.present_unitOf l)]
      rfl)]
    exact (Four.get_mapIdx s.stages (fun l st => forceStage (s.legEntry l) st) l).symm
  · rw [State.tripAll_trip]
    refine Eq.trans ?_ (Four.get_mapIdx ..).symm
    change (if s.present u = true then _ else _) = _
    by_cases hu : s.present u = true
    · rw [if_pos hu, if_pos (by rw [hnormal u hu]; rfl), if_pos hu, State.tripEntry, hdiscards,
        hfree u hu]
      rfl
    · rw [if_neg hu, if_neg hu, s.enterRun_trip, if_neg hu]
      rfl

/-- Settles O25: the first fault of the table is the first condition that fails; a sound table begins
RUN, and FAULT_N is then checked. -/
theorem commitChecksTheTableAndBeginsRun : Obligations.CommitChecksTheTableAndBeginsRun := by
  refine ⟨fun p seq s htake hsetup hp hunsound => ?_, fun p seq s htake hsetup hp hsound =>
    ⟨fun hhigh => ?_, fun hlow hidle => ?_⟩⟩
  · obtain ⟨f, before, after, hfault, hchecks, hbefore⟩ := tableFault_of_unsound hunsound
    refine ⟨before, f.data, after, hchecks, hbefore,
      completes_of_response (effect := fun s => s.setLock (some p) Config.lockLimit) rfl htake
        (fun P => ?_) fun Q => State.setLock_of_holder hp⟩
    refine (asHolder_holder hsetup hp _).trans ?_
    change (match tableFault s.board with | some _ => _ | none => _) = _
    rw [hfault]
    rfl
  all_goals have hnone := tableFault_of_sound hsound
  · refine completes_of_response (effect := fun s => s.enterRun.faultCheck) rfl htake
      (fun P => ?_) fun Q => State.faultCheck_high hhigh
    refine (asHolder_holder hsetup hp _).trans ?_
    change (match tableFault s.board with | some _ => _ | none => _) = _
    rw [hnone]
  · refine completesTelling_of_response (effect := fun s => s.enterRun.faultCheck) rfl htake
      (fun P => ?_) fun Q =>
        (State.faultCheck_low (s := ({ s with ports := Q } : State).enterRun) hlow).trans
          (State.enterRun_tripAll (s := { s with ports := Q }) hidle)
    refine (asHolder_holder hsetup hp _).trans ?_
    change (match tableFault s.board with | some _ => _ | none => _) = _
    rw [hnone]

end Sys2Proof.Machine
end

section
/-! PROOFS. Chapter 03: what is asked of the gates of a leg, what bringing them there comes to, and the
statements O40, O41, O42 and O43. -/

namespace Sys2Proof.Machine

/-! ### What is asked of the gates (R54, R60 to R65) -/

theorem wantedGates_playing {e : LegEntry} {held : Bool} {st : Stage} {y : Layout} {pos : Nat}
    (h : st.state = .playing y pos) (hpos : pos < y.period) :
    wantedGates e held st = kindGates e.kind (layoutGates e.dt y pos) := by
  simp [wantedGates, h, hpos]

/-- R65: in RESTING the idle level is asked for. -/
theorem wantedGates_resting {e : LegEntry} {st : Stage} (held : Bool) (h : st.state = .resting) :
    wantedGates e held st = (false, showsLow e held) := by
  simp only [wantedGates, h, showsLow]
  cases e.kind <;> simp [kindGates]

/-- The stage plays no period and shows no idle level. -/
def StageState.silent (x : StageState) : Prop :=
  x = .forced ∨ x = .waiting ∨ ∃ y, x = .leading y

theorem wantedGates_silent {e : LegEntry} {st : Stage} (held : Bool) (h : st.state.silent) :
    wantedGates e held st = (false, false) := by
  obtain h | h | ⟨y, h⟩ := h <;> simp [wantedGates, h]

theorem kindGates_highSide {k : LegKind} (h : k = .highSide) (w : Bool × Bool) :
    (kindGates k w).2 = false := by
  subst h
  rfl

theorem kindGates_lowSide {k : LegKind} (h : k = .lowSide) (w : Bool × Bool) :
    (kindGates k w).1 = false := by
  subst h
  rfl

theorem kindGates_fst_of_ne {k : LegKind} (h : k ≠ .lowSide) (w : Bool × Bool) :
    (kindGates k w).1 = w.1 := by
  cases k <;> simp_all [kindGates]

theorem kindGates_snd_of_ne {k : LegKind} (h : k ≠ .highSide) (w : Bool × Bool) :
    (kindGates k w).2 = w.2 := by
  cases k <;> simp_all [kindGates]

theorem kindGates_fst_of_false (k : LegKind) {w : Bool × Bool} (h : w.1 = false) :
    (kindGates k w).1 = false := by
  cases k <;> simp_all [kindGates]

theorem kindGates_snd_of_false (k : LegKind) {w : Bool × Bool} (h : w.2 = false) :
    (kindGates k w).2 = false := by
  cases k <;> simp_all [kindGates]

/-- R60 to R63: no layout asks for both gates at one position. -/
theorem layoutGates_not_both (dt : Nat) (y : Layout) (pos : Nat) :
    ((layoutGates dt y pos).1 && (layoutGates dt y pos).2) = false := by
  unfold layoutGates
  cases y.mode <;> simp
  omega

theorem kindGates_not_both (k : LegKind) {w : Bool × Bool} (h : (w.1 && w.2) = false) :
    ((kindGates k w).1 && (kindGates k w).2) = false := by
  cases k <;> simp [kindGates, h]

/-- R57: never are both gates asked for. -/
theorem wantedGates_not_both {e : LegEntry} (held : Bool) {st : Stage}
    (h : (st.gh && st.gl) = false) :
    ((wantedGates e held st).1 && (wantedGates e held st).2) = false := by
  unfold wantedGates
  split
  · refine kindGates_not_both _ ?_
    split
    · exact layoutGates_not_both ..
    · exact h
  · exact kindGates_not_both _ rfl
  all_goals rfl

/-- The gates asked for: none, GH alone, or GL alone. -/
theorem wantedGates_cases {e : LegEntry} (held : Bool) {st : Stage}
    (h : (st.gh && st.gl) = false) :
    wantedGates e held st = (false, false) ∨ wantedGates e held st = (true, false) ∨
      wantedGates e held st = (false, true) := by
  have hnot := wantedGates_not_both (e := e) held h
  generalize wantedGates e held st = w at hnot
  obtain ⟨_ | _, _ | _⟩ := w <;> simp_all

/-- The gates that are on: none, GH alone, or GL alone. -/
theorem Stage.gates_cases {st : Stage} (h : (st.gh && st.gl) = false) :
    (st.gh = false ∧ st.gl = false) ∨ (st.gh = true ∧ st.gl = false) ∨
      (st.gh = false ∧ st.gl = true) := by
  cases hgh : st.gh <;> simp_all

/-! ### Bringing the gates there (R57, R68) -/

section Settle

variable {e : LegEntry} {held : Bool} {st : Stage}

theorem settleStage_of_none (h : wantedGates e held st = (false, false)) :
    settleStage e held st = turnOffGL e.dt (turnOffGH e.dt st) := by
  simp [settleStage, h, turnOffs, turnOns]

theorem settleStage_of_high (h : wantedGates e held st = (true, false)) :
    settleStage e held st = turnOnGH (turnOffGL e.dt st) := by
  simp [settleStage, h, turnOffs, turnOns]

theorem settleStage_of_low (h : wantedGates e held st = (false, true)) :
    settleStage e held st = turnOnGL (turnOffGH e.dt st) := by
  simp [settleStage, h, turnOffs, turnOns]

end Settle

theorem turnOnGH_of_on {st : Stage} (h : st.gh = true) : turnOnGH st = st := by
  simp [turnOnGH, h]
theorem turnOnGL_of_on {st : Stage} (h : st.gl = true) : turnOnGL st = st := by
  simp [turnOnGL, h]
theorem turnOnGH_of_off {st : Stage} (hgh : st.gh = false) (hgl : st.gl = false) :
    turnOnGH st =
      if guards st.guarded .gh = true then st else { st with gh := true, ghBlank := some 0 } := by
  simp [turnOnGH, hgh, hgl]
theorem turnOnGL_of_off {st : Stage} (hgh : st.gh = false) (hgl : st.gl = false) :
    turnOnGL st =
      if guards st.guarded .gl = true then st else { st with gl := true, glBlank := some 0 } := by
  simp [turnOnGL, hgh, hgl]

/-- R57: the guard that the turn-off of GL leaves on GH. -/
theorem guards_after_gl (dt : Nat) : guards (guardAfter dt .gh) .gh = decide (dt ≠ 0) := by
  by_cases h : dt = 0
  · simp [h]
  · simp [guardAfter_pos h, guards, h]

/-- R57: the guard that the turn-off of GH leaves on GL. -/
theorem guards_after_gh (dt : Nat) : guards (guardAfter dt .gl) .gl = decide (dt ≠ 0) := by
  by_cases h : dt = 0
  · simp [h]
  · simp [guardAfter_pos h, guards, h]

/-- What bringing the gates to what is asked can do: nothing, as what is asked is on or guarded; one
turn-on; one turn-off; or, with a DT of 0, one of each. -/
inductive Settled (dt : Nat) (w : Bool × Bool) (st : Stage) : Stage → Prop
  | rest (hw : w = (false, false)) (hgh : st.gh = false) (hgl : st.gl = false) : Settled dt w st st
  | keepsGH (hw : w = (true, false)) (hgh : st.gh = true) (hgl : st.gl = false) :
      Settled dt w st st
  | keepsGL (hw : w = (false, true)) (hgh : st.gh = false) (hgl : st.gl = true) :
      Settled dt w st st
  | guardedGH (hw : w = (true, false)) (hgh : st.gh = false) (hgl : st.gl = false)
      (hguard : guards st.guarded .gh = true) : Settled dt w st st
  | guardedGL (hw : w = (false, true)) (hgh : st.gh = false) (hgl : st.gl = false)
      (hguard : guards st.guarded .gl = true) : Settled dt w st st
  | onGH (hw : w = (true, false)) (hgh : st.gh = false) (hgl : st.gl = false)
      (hfree : guards st.guarded .gh = false) :
      Settled dt w st { st with gh := true, ghBlank := some 0 }
  | onGL (hw : w = (false, true)) (hgh : st.gh = false) (hgl : st.gl = false)
      (hfree : guards st.guarded .gl = false) :
      Settled dt w st { st with gl := true, glBlank := some 0 }
  | offGH (hw : w.1 = false) (hgl : w.2 = true → dt ≠ 0) (hgh : st.gh = true)
      (hgl : st.gl = false) :
      Settled dt w st
        { st with gh := false, ghBlank := none, deadTimer := 0, guarded := guardAfter dt .gl }
  | offGL (hw : w.2 = false) (hgh : w.1 = true → dt ≠ 0) (hgh : st.gh = false)
      (hgl : st.gl = true) :
      Settled dt w st
        { st with gl := false, glBlank := none, deadTimer := 0, guarded := guardAfter dt .gh }
  | toGL (hw : w = (false, true)) (hdt : dt = 0) (hgh : st.gh = true) (hgl : st.gl = false) :
      Settled dt w st
        { st with
          gh := false, ghBlank := none, deadTimer := 0, guarded := .none
          gl := true, glBlank := some 0 }
  | toGH (hw : w = (true, false)) (hdt : dt = 0) (hgh : st.gh = false) (hgl : st.gl = true) :
      Settled dt w st
        { st with
          gl := false, glBlank := none, deadTimer := 0, guarded := .none
          gh := true, ghBlank := some 0 }

/-- R57: with at most one gate on, the gates are brought to what is asked in one of these ways. -/
theorem settleStage_settled (e : LegEntry) (held : Bool) {st : Stage}
    (h : (st.gh && st.gl) = false) :
    Settled e.dt (wantedGates e held st) st (settleStage e held st) := by
  obtain hw | hw | hw := wantedGates_cases (e := e) held h
  · rw [settleStage_of_none hw, hw]
    obtain ⟨hgh, hgl⟩ | ⟨hgh, hgl⟩ | ⟨hgh, hgl⟩ := Stage.gates_cases h
    · rw [turnOffGH_off hgh, turnOffGL_off hgl]
      exact .rest rfl hgh hgl
    · rw [turnOffGH_on hgh, turnOffGL_off (by exact hgl)]
      exact .offGH rfl nofun hgh hgl
    · rw [turnOffGH_off hgh, turnOffGL_on hgl]
      exact .offGL rfl nofun hgh hgl
  · rw [settleStage_of_high hw, hw]
    obtain ⟨hgh, hgl⟩ | ⟨hgh, hgl⟩ | ⟨hgh, hgl⟩ := Stage.gates_cases h
    · rw [turnOffGL_off hgl, turnOnGH_of_off hgh hgl]
      split
      next hguard => exact .guardedGH rfl hgh hgl hguard
      next hfree => exact .onGH rfl hgh hgl (Bool.not_eq_true _ ▸ hfree)
    · rw [turnOffGL_off hgl, turnOnGH_of_on hgh]
      exact .keepsGH rfl hgh hgl
    · rw [turnOffGL_on hgl, turnOnGH_of_off (by exact hgh) rfl, guards_after_gl]
      by_cases hdt : e.dt = 0
      · rw [if_neg (by simp [hdt]), hdt]
        exact .toGH rfl rfl hgh hgl
      · rw [if_pos (by simp [hdt])]
        exact .offGL rfl (fun _ => hdt) hgh hgl
  · rw [settleStage_of_low hw, hw]
    obtain ⟨hgh, hgl⟩ | ⟨hgh, hgl⟩ | ⟨hgh, hgl⟩ := Stage.gates_cases h
    · rw [turnOffGH_off hgh, turnOnGL_of_off hgh hgl]
      split
      next hguard => exact .guardedGL rfl hgh hgl hguard
      next hfree => exact .onGL rfl hgh hgl (Bool.not_eq_true _ ▸ hfree)
    · rw [turnOffGH_on hgh, turnOnGL_of_off rfl (by exact hgl), guards_after_gh]
      by_cases hdt : e.dt = 0
      · rw [if_neg (by simp [hdt]), hdt]
        exact .toGL rfl rfl hgh hgl
      · rw [if_pos (by simp [hdt])]
        exact .offGH rfl (fun _ => hdt) hgh hgl
    · rw [turnOffGH_off hgh, turnOnGL_of_on hgl]
      exact .keepsGL rfl hgh hgl

/-! ### Forcing (R58) -/

theorem bothOff_on {dt : Nat} {x : StageState} {st : Stage} (h : st.gh = true ∨ st.gl = true) :
    bothOff dt x st =
      { st with
        state := x, gh := false, gl := false, ghBlank := none, glBlank := none, deadTimer := 0
        guarded := guardAfter dt .both, fromIdleLow := false } := by
  simp [bothOff, h]

theorem bothOff_off {dt : Nat} {x : StageState} {st : Stage} (hgh : st.gh = false)
    (hgl : st.gl = false) : bothOff dt x st = { st with state := x, fromIdleLow := false } := by
  simp [bothOff, hgh, hgl]

/-- Settles O41: a forcing is `bothOff`; of the ways in which the gates are brought to what is asked,
each meets the statement. -/
theorem gatesTurnOffAndOnUnderTheGuard : Obligations.GatesTurnOffAndOnUnderTheGuard := by
  refine ⟨fun e st => ⟨bothOff_state .., bothOff_gh .., bothOff_gl .., fun hon => ?_,
    fun hgh hgl => ?_⟩, fun e held st hst => ?_⟩
  · rw [forceStage, bothOff_on hon]
    exact ⟨rfl, rfl, rfl, rfl⟩
  · rw [forceStage, bothOff_off hgh hgl]
    exact ⟨rfl, rfl⟩
  · have hsettled := settleStage_settled e held hst
    dsimp only
    generalize wantedGates e held st = w at hsettled
    generalize settleStage e held st = t at hsettled
    cases hsettled with
    | rest hw hgh hgl => simp [hw, hgh, hgl]
    | keepsGH hw hgh hgl => simp [hw, hgh, hgl]
    | keepsGL hw hgh hgl => simp [hw, hgh, hgl]
    | guardedGH hw hgh hgl hguard => simp [hw, hgh, hgl, hguard]
    | guardedGL hw hgh hgl hguard => simp [hw, hgh, hgl, hguard]
    | onGH hw hgh hgl hfree => simp [hw, hgh, hgl, hfree]
    | onGL hw hgh hgl hfree => simp [hw, hgh, hgl, hfree]
    | offGH hw hdt hgh hgl =>
      obtain ⟨w1, w2⟩ := w
      simp_all [guardAfter]
    | offGL hw hdt hgh hgl =>
      obtain ⟨w1, w2⟩ := w
      simp_all [guardAfter]
    | toGL hw hdt hgh hgl => simp [hw, hdt, hgh, hgl]
    | toGH hw hdt hgh hgl => simp [hw, hdt, hgh, hgl]

/-! ### Layouts (R60 to R63) -/

/-- Settles O42: within a period the layout is asked, cut down to the gates of the leg's kind. -/
theorem layoutsAskForTheirIntervals : Obligations.LayoutsAskForTheirIntervals := by
  refine ⟨fun e held st y pos hstate hpos => ?_, fun e held st =>
    ⟨wantedGates_resting held, wantedGates_silent held⟩⟩
  rw [wantedGates_playing hstate hpos]
  dsimp only
  refine ⟨fun h => kindGates_highSide h _, fun h => kindGates_lowSide h _, ?complementary, ?cut,
    ?highOnly, ?highCut, ?lowOnly, ?holdLow, ?off⟩
  case complementary =>
    intro hmode hkind hcut hfits
    simp only [hkind, kindGates, layoutGates, hmode, hcut, Option.getD_none, decide_eq_true_eq,
      true_and]
    omega
  case cut =>
    intro c hmode hkind hcut hc
    simp only [hkind, kindGates, layoutGates, hmode, hcut, Option.getD_some, decide_eq_true_eq,
      decide_eq_false_iff_not]
    omega
  case highOnly =>
    intro hmode hkind hcut
    rw [kindGates_fst_of_ne hkind]
    simp [layoutGates, hmode, hcut, kindGates_snd_of_false]
  case highCut =>
    intro c hmode hcut hc
    exact ⟨kindGates_fst_of_false _ (by simp [layoutGates, hmode, hcut, hc]),
      kindGates_snd_of_false _ (by simp [layoutGates, hmode])⟩
  case lowOnly =>
    intro hmode hkind
    rw [kindGates_snd_of_ne hkind]
    simp [layoutGates, hmode, kindGates_fst_of_false]
  case holdLow =>
    intro hmode hkind hdt
    rw [kindGates_snd_of_ne hkind]
    have hend : pos + e.dt < y.period ↔ pos < y.period - e.dt := by omega
    simp [layoutGates, hmode, kindGates_fst_of_false, hend]
  case off =>
    intro hmode
    exact ⟨kindGates_fst_of_false _ (by simp [layoutGates, hmode]),
      kindGates_snd_of_false _ (by simp [layoutGates, hmode])⟩

/-! ### A take (R34, R66, R126, R128) -/

/-- R126: the half of the circle in which an AT_TIME gate is open. -/
theorem gateOpen_iff (now t : Stamp) :
    gateOpen now t = true ↔ (now.toNat + 2 ^ 32 - t.toNat) % 2 ^ 32 < 2 ^ 31 := by
  have hsub : (now - t).toNat = (now.toNat + 2 ^ 32 - t.toNat) % 2 ^ 32 := by
    rw [BitVec.toNat_sub]
    congr 1
    omega
  rw [gateOpen, decide_eq_true_eq, hsub]

theorem gateOpen_eq_false {now t : Stamp} (h : 2 ^ 31 ≤ (now.toNat + 2 ^ 32 - t.toNat) % 2 ^ 32) :
    gateOpen now t = false :=
  Bool.not_eq_true _ ▸ fun hopen => Nat.not_lt.mpr h ((gateOpen_iff now t).mp hopen)

/-- R34: what the start gate makes of the active segment. -/
theorem activeOf_gate {e : LegEntry} {now : Stamp} {g : Segment} {state : Option GateState}
    {late : Bool} (h : gateAtTake now g.gate = (state, late)) :
    (activeOf e now g).gate = state ∧ (activeOf e now g).late = late := by
  simp [activeOf, h]

theorem turnOff_gates (dt : Nat) (st : Stage) :
    (turnOffGL dt (turnOffGH dt st)).gh = false ∧ (turnOffGL dt (turnOffGH dt st)).gl = false := by
  unfold turnOffGL turnOffGH
  constructor <;> split_ifs <;> simp_all

theorem turnOff_fromIdleLow (dt : Nat) (st : Stage) :
    (turnOffGL dt (turnOffGH dt st)).fromIdleLow = st.fromIdleLow := by
  unfold turnOffGL turnOffGH
  split_ifs <;> rfl

theorem turnOffGH_gl (dt : Nat) (st : Stage) : (turnOffGH dt st).gl = st.gl := by
  unfold turnOffGH
  split <;> rfl

section Take

variable {e : LegEntry} (held : Bool) {a : Active} {st : Stage}

/-- R67: a take with a closed start gate. -/
theorem takeStage_closed (h : a.gate ≠ none) :
    takeStage e held a st = turnOffGL e.dt (turnOffGH e.dt
      { st with state := .waiting, fromIdleLow := decide (st.state = .resting) && st.gl }) := by
  obtain ⟨g, hg⟩ := Option.ne_none_iff_exists'.mp h
  simp only [takeStage, hg]
  exact settleStage_of_none (wantedGates_silent held (.inr (.inl rfl)))

/-- R66: a take from the idle level LOW with a DT other than 0. -/
theorem takeStage_leading (hgate : a.gate = none) (hrest : st.state = .resting)
    (hgl : st.gl = true) (hdt : e.dt ≠ 0) :
    takeStage e held a st = turnOffGL e.dt (turnOffGH e.dt
      { st with state := .leading (layoutOf a), fromIdleLow := true }) := by
  simp only [takeStage, hgate, hrest, hgl, hdt, decide_true, Bool.and_self, if_true, if_false]
  exact settleStage_of_none (wantedGates_silent held (.inr (.inr ⟨_, rfl⟩)))

/-- R66: a take from the idle level LOW with a DT of 0 (log 17). -/
theorem takeStage_idleLow_zero (hgate : a.gate = none) (hrest : st.state = .resting)
    (hgl : st.gl = true) (hdt : e.dt = 0) :
    takeStage e held a st = beginPeriod e held (layoutOf a) (turnOffGL e.dt st) := by
  simp [takeStage, hgate, hrest, hgl, hdt]

/-- R59: any other take begins period 0. -/
theorem takeStage_begins (hgate : a.gate = none) (h : ¬ (st.state = .resting ∧ st.gl = true)) :
    takeStage e held a st = beginPeriod e held (layoutOf a) st := by
  simp [takeStage, hgate, h]

end Take

/-- Settles O40: the start gate decides the active segment; the stage waits, leads or plays by the
gate, the idle level it showed and DT. -/
theorem aTakeSetsSequencerAndStage : Obligations.ATakeSetsSequencerAndStage := by
  refine ⟨fun e now g => ⟨rfl, rfl, rfl, fun hg => ?_, fun t hg => ⟨fun hopen => ?_, fun hclosed => ?_⟩,
    fun k hg => ?_⟩, fun e held a st => ⟨fun hgate => ?closed, fun hgate hrest hgl hdt => ?leading,
      fun hgate hrest hgl hdt => ?zero, fun hgate hnot => ?plays, fun hgate hnot => ?begins⟩⟩
  · exact activeOf_gate (by rw [hg]; rfl)
  · exact activeOf_gate (by rw [hg, gateAtTake, if_pos ((gateOpen_iff now t).mpr hopen)])
  · exact activeOf_gate (by rw [hg, gateAtTake, if_neg (by simp [gateOpen_eq_false hclosed])])
  · exact activeOf_gate (by rw [hg]; rfl)
  case closed =>
    rw [takeStage_closed held hgate]
    refine ⟨by simp, (turnOff_gates ..).1, (turnOff_gates ..).2, ?_, fun hgh hgl => ?_,
      fun hgh hgl => ?_, fun hgh hgl => ?_⟩
    · rw [turnOff_fromIdleLow]
      simp
    · rw [turnOffGH_off (by exact hgh), turnOffGL_on (by exact hgl)]
      simp [hgl, guardAfter]
    · rw [turnOffGH_on (by exact hgh), turnOffGL_off (by exact hgl)]
      simp [hgl, guardAfter]
    · rw [turnOffGH_off (by exact hgh), turnOffGL_off (by exact hgl)]
      simp [hgl]
  case leading =>
    rw [takeStage_leading held hgate hrest hgl hdt]
    refine ⟨by simp, (turnOff_gates ..).1, (turnOff_gates ..).2, ?_, ?_, fun hgh => ?_⟩
    · rw [turnOffGL_on (by rw [turnOffGH_gl]; exact hgl)]
    · rw [turnOffGL_on (by rw [turnOffGH_gl]; exact hgl)]
      exact guardAfter_pos hdt _
    · rw [turnOffGH_off (by exact hgh), turnOffGL_on (by exact hgl), guardAfter_pos hdt]
  case zero =>
    rw [takeStage_idleLow_zero held hgate hrest hgl hdt, beginPeriod, turnOffGL_on hgl, hdt,
      guardAfter_zero]
  case plays =>
    by_cases hlow : st.state = .resting ∧ st.gl = true
    · obtain ⟨hrest, hgl⟩ := hlow
      have hdt : e.dt = 0 := not_not.mp fun hdt => hnot ⟨hrest, hgl, hdt⟩
      rw [takeStage_idleLow_zero held hgate hrest hgl hdt, beginPeriod_state]
    · rw [takeStage_begins held hgate hlow, beginPeriod_state]
  case begins => exact takeStage_begins held hgate hnot

/-! ### The waveform events (R38, R57, R62, R66) -/

/-- R57: the end of the guard turns on the gate that is still asked for, when both are off. -/
theorem releaseStage_eq (e : LegEntry) (held : Bool) (st : Stage) :
    let w := wantedGates e held st
    let onGH := w.1 && !st.gh && !st.gl
    let onGL := w.2 && !st.gh && !st.gl
    releaseStage e held st =
      { st with
        guarded := .none, gh := st.gh || onGH, gl := st.gl || onGL
        ghBlank := if onGH then some 0 else st.ghBlank
        glBlank := if onGL then some 0 else st.glBlank } := by
  dsimp only
  unfold releaseStage
  by_cases hoff : st.gh = false ∧ st.gl = false
  · obtain ⟨hgh, hgl⟩ := hoff
    obtain hw | hw | hw := wantedGates_cases (e := e) held (st := st) (by simp [hgh])
    · simp [hw, turnOns, hgh, hgl]
    · simp [hw, turnOns, turnOnGH, hgh, hgl]
    · simp [hw, turnOns, turnOnGL, hgh, hgl]
  · have hon : (st.gh || st.gl) = true := by
      cases hgh : st.gh <;> simp_all
    have hnot : (!st.gh && !st.gl) = false := by
      cases hgh : st.gh <;> simp_all
    simp [turnOns, turnOnGH, turnOnGL, hon, Bool.and_assoc, hnot]

section WaveRows

variable (l : Leg) (s : State)

theorem exec_decisionPoint : exec (.decisionPoint l) s =
    .next (if s.decisionDue l then s.onStage l (judgeStage (s.judgedFinal l)) else s) := rfl
theorem exec_layoutGateChange : exec (.layoutGateChange l) s =
    .next (if s.changeDue l then s.onStage l settleStage else s) := rfl
theorem exec_deadTimeGuardExpiry : exec (.deadTimeGuardExpiry l) s =
    .next (if s.guardDue l then s.onStage l releaseStage else s) := rfl
theorem exec_leadingDeadTimeEnd : exec (.leadingDeadTimeEnd l) s =
    .next (if s.leadDue l then s.onStage l leadStage else s) := rfl

end WaveRows

/-- Settles O43: each row is due by its premise and acts at the stage of its leg. -/
theorem waveformEventsMoveTheStage : Obligations.WaveformEventsMoveTheStage := by
  intro l s
  refine ⟨fun y pos a hstate hactive hcount hmode hdt hjudged hpos => ?_,
    fun y pos hstate hpos hchange => ?_, fun hguard hdt => ?_, fun y hstate hdt => ?_⟩
  · have hdue : s.decisionDue l = true := by
      simp only [State.decisionDue, hstate, hactive]
      exact decide_eq_true ⟨hcount, hmode, hdt, hjudged, hpos⟩
    rw [exec_decisionPoint, if_pos hdue, State.onStage_eq, judgeStage, hstate]
    simp only [State.judgedFinal, Bool.or_assoc]
  · have hdue : s.changeDue l = true := by
      simp only [State.changeDue, hstate]
      exact decide_eq_true ⟨hpos, hchange⟩
    rw [exec_layoutGateChange, if_pos hdue, State.onStage_eq]
  · have hdue : s.guardDue l = true := decide_eq_true ⟨hguard, hdt⟩
    rw [exec_deadTimeGuardExpiry, if_pos hdue, State.onStage_eq, releaseStage_eq]
  · have hdue : s.leadDue l = true := by
      simp only [State.leadDue, hstate]
      exact decide_eq_true hdt
    rw [exec_leadingDeadTimeEnd, if_pos hdue, State.onStage_eq, leadStage, hstate]

end Sys2Proof.Machine
end

section
/-! PROOFS. Chapters 01 and 05, the lease commands and CLEAR_TRIP: what each is answered case by case,
what it does, and the statements O26 to O32 and O48. -/

namespace Sys2Proof.Machine

/-! ### The owner and the releasing port (R2) -/

theorem UnitRec.ownedBy_iff {r : UnitRec} {p : Port} :
    r.ownedBy p = true ↔ r.lease = .held ∧ r.owner = some p := decide_eq_true_iff
theorem UnitRec.ownedBy_eq_false {r : UnitRec} {p : Port} :
    r.ownedBy p = false ↔ ¬ (r.lease = .held ∧ r.owner = some p) := decide_eq_false_iff_not
theorem UnitRec.releasedBy_iff {r : UnitRec} {p : Port} :
    r.releasedBy p = true ↔ r.lease = .releasing ∧ r.releasing = some p := decide_eq_true_iff
theorem UnitRec.releasedBy_eq_false {r : UnitRec} {p : Port} :
    r.releasedBy p = false ↔ ¬ (r.lease = .releasing ∧ r.releasing = some p) :=
  decide_eq_false_iff_not

/-- The releasing port of a unit is not its owner: it is not HELD. -/
theorem UnitRec.ownedBy_of_releasedBy {r : UnitRec} {p : Port} (h : r.releasedBy p = true) :
    r.ownedBy p = false := by
  obtain ⟨hlease, -⟩ := UnitRec.releasedBy_iff.mp h
  refine UnitRec.ownedBy_eq_false.mpr fun ⟨hheld, _⟩ => ?_
  rw [hlease] at hheld
  cases hheld

/-- Port `p` stands in a wait list. -/
theorem any_port_iff {ws : List WaitEntry} {p : Port} :
    (ws.any fun w => decide (w.port = p)) = true ↔ ∃ w ∈ ws, w.port = p := by
  simp

theorem any_port_eq_false {ws : List WaitEntry} {p : Port} (h : ∀ w ∈ ws, w.port ≠ p) :
    (ws.any fun w => decide (w.port = p)) = false := by
  simpa using h

/-! ### CLAIM (R12 to R14) -/

theorem claimModeOf_eq {mode : Byte} (h : mode.toNat ≤ 1) :
    claimModeOf mode = some (decide (mode = 0x01)) := by
  obtain rfl | rfl : mode = 0x00 ∨ mode = 0x01 := by
    have hcases : mode.toNat = 0 ∨ mode.toNat = 1 := by omega
    exact hcases.imp BitVec.eq_of_toNat_eq BitVec.eq_of_toNat_eq
  · rfl
  · rfl

theorem claimModeOf_le {mode : Byte} {wait : Bool} (h : claimModeOf mode = some wait) :
    mode.toNat ≤ 1 := by
  unfold claimModeOf at h
  split_ifs at h with h0 h1
  · simp [h0]
  · simp [h1]

/-- R12 check 4 passes. -/
theorem readClaim_eq {maxLease : Nat} {period : Half} {mode : Byte} {limit : Half}
    (h : 10 ≤ period.toNat ∧ period.toNat ≤ maxLease ∧ mode.toNat ≤ 1 ∧ limit.toNat ≤ 60000) :
    readClaim maxLease period mode limit =
      some (period.toNat, decide (mode = 0x01),
        if limit.toNat = 0 then none else some limit.toNat) := by
  obtain ⟨hmin, hmax, hmode, hlimit⟩ := h
  rw [readClaim, claimModeOf_eq hmode]
  exact if_pos ⟨hmin, hmax, hlimit⟩

/-- R12 check 4 fails. -/
theorem readClaim_none {maxLease : Nat} {period : Half} {mode : Byte} {limit : Half}
    (h : ¬ (10 ≤ period.toNat ∧ period.toNat ≤ maxLease ∧ mode.toNat ≤ 1 ∧
      limit.toNat ≤ 60000)) : readClaim maxLease period mode limit = none := by
  unfold readClaim
  split
  next wait hwait =>
    exact if_neg fun ⟨hmin, hmax, hlimit⟩ => h ⟨hmin, hmax, claimModeOf_le hwait, hlimit⟩
  · rfl

section Claim

variable {p : Port} {unit : Byte} {period : Half} {mode : Byte} {limit : Half} {s : State}
  {u : UnitNo}

theorem claimResponse_setup (h : s.setup.phase = .setup) :
    claimResponse p unit period mode limit s = refuse .notRunning := by
  simp [claimResponse, h]

theorem claimResponse_noSuch (h : s.setup.phase = .run) (hnone : ∀ u, ¬ s.names unit u) :
    claimResponse p unit period mode limit s = refuse .noSuch :=
  (if_neg (by simp [h])).trans (onUnit_unnamed hnone _)

theorem claimResponse_denied (h : s.setup.phase = .run) (hu : s.names unit u)
    (hallowed : (s.unitEntry u).allowed.get p = false) :
    claimResponse p unit period mode limit s = refuse .denied :=
  (if_neg (by simp [h])).trans ((onUnit_named hu _).trans (if_pos hallowed))

theorem claimResponse_range (h : s.setup.phase = .run) (hu : s.names unit u)
    (hallowed : (s.unitEntry u).allowed.get p = true)
    (hfits : ¬ (10 ≤ period.toNat ∧ period.toNat ≤ (s.unitEntry u).maxLease ∧ mode.toNat ≤ 1 ∧
      limit.toNat ≤ 60000)) :
    claimResponse p unit period mode limit s = refuse .range := by
  refine (if_neg (by simp [h])).trans
    ((onUnit_named hu _).trans ((if_neg (by simp [hallowed])).trans ?_))
  rw [readClaim_none hfits]

theorem claimResponse_fits (h : s.setup.phase = .run) (hu : s.names unit u)
    (hallowed : (s.unitEntry u).allowed.get p = true)
    (hfits : 10 ≤ period.toNat ∧ period.toNat ≤ (s.unitEntry u).maxLease ∧ mode.toNat ≤ 1 ∧
      limit.toNat ≤ 60000) :
    claimResponse p unit period mode limit s =
      claimInRange p s u period.toNat (decide (mode = 0x01))
        (if limit.toNat = 0 then none else some limit.toNat) := by
  refine (if_neg (by simp [h])).trans
    ((onUnit_named hu _).trans ((if_neg (by simp [hallowed])).trans ?_))
  rw [readClaim_eq hfits]

end Claim

section ClaimInRange

variable {p : Port} {s : State} {u : UnitNo} {ms : Nat} {wait : Bool} {limit : Option Nat}

theorem claimInRange_owner (h : (s.unit u).lease = .held ∧ (s.unit u).owner = some p) :
    claimInRange p s u ms wait limit = refuse .alreadyOwner :=
  if_pos (UnitRec.ownedBy_iff.mpr h)

variable (howner : ¬ ((s.unit u).lease = .held ∧ (s.unit u).owner = some p))

include howner

theorem claimInRange_duplicate (h : ∃ w ∈ (s.unit u).wait, w.port = p) :
    claimInRange p s u ms wait limit = refuse .duplicate :=
  (if_neg fun h => howner (UnitRec.ownedBy_iff.mp h)).trans (if_pos (any_port_iff.mpr h))

variable (hwait : ∀ w ∈ (s.unit u).wait, w.port ≠ p)

include hwait

/-- A CLAIM that is neither the owner's nor a second one. -/
theorem claimInRange_new :
    claimInRange p s u ms wait limit =
      if (s.unit u).lease = .free then
        ⟨.granted, [numByte u] ++ num2 ms ++ [yesNo (s.tripped u)], fun s => s.grant u p ms⟩
      else if wait then
        ⟨.queued, [numByte u, num1 ((s.unit u).wait.length + 1)],
          fun s => s.joinWait u (newWait p ms limit s.time.stamp)⟩
      else refuse .busy :=
  (if_neg fun h => howner (UnitRec.ownedBy_iff.mp h)).trans
    (if_neg (by rw [any_port_eq_false hwait]; simp))

theorem claimInRange_free (hlease : (s.unit u).lease = .free) :
    claimInRange p s u ms wait limit =
      ⟨.granted, [numByte u] ++ num2 ms ++ [yesNo (s.tripped u)], fun s => s.grant u p ms⟩ :=
  (claimInRange_new howner hwait).trans (if_pos hlease)

theorem claimInRange_busy (hlease : (s.unit u).lease ≠ .free) (hmode : wait = false) :
    claimInRange p s u ms wait limit = refuse .busy :=
  (claimInRange_new howner hwait).trans ((if_neg hlease).trans (if_neg (by simp [hmode])))

theorem claimInRange_queued (hlease : (s.unit u).lease ≠ .free) (hmode : wait = true) :
    claimInRange p s u ms wait limit =
      ⟨.queued, [numByte u, num1 ((s.unit u).wait.length + 1)],
        fun s => s.joinWait u (newWait p ms limit s.time.stamp)⟩ :=
  (claimInRange_new howner hwait).trans ((if_neg hlease).trans (if_pos hmode))

end ClaimInRange

/-- Settles O26: the checks of a CLAIM are its nested cases. -/
theorem claimIsCheckedInOrder : Obligations.ClaimIsCheckedInOrder := by
  intro p seq unit period mode limit s htake
  refine ⟨fun hsetup => ?setup, fun hrun => ⟨fun hnone => ?noSuch, fun u hu =>
    ⟨fun hallowed => ?denied, fun hallowed => ⟨fun hfits => ?range, fun hfits hlease howner => ?owner,
      fun hfits hnot hwait => ?duplicate⟩⟩⟩⟩
  case setup => exact refuses_of_response rfl htake fun _ => claimResponse_setup hsetup
  case noSuch =>
    exact refuses_of_response rfl htake fun _ => claimResponse_noSuch hrun hnone
  case denied => exact refuses_of_response rfl htake fun _ => claimResponse_denied hrun hu hallowed
  case range =>
    exact refuses_of_response rfl htake fun _ => claimResponse_range hrun hu hallowed hfits
  case owner =>
    exact refuses_of_response rfl htake fun _ =>
      (claimResponse_fits hrun hu hallowed hfits).trans (claimInRange_owner ⟨hlease, howner⟩)
  case duplicate =>
    exact refuses_of_response rfl htake fun _ =>
      (claimResponse_fits hrun hu hallowed hfits).trans (claimInRange_duplicate hnot hwait)

/-- R65: a RESTING leg with both gates off shows its idle level. -/
theorem settleStage_resting_off {e : LegEntry} {held : Bool} {st : Stage}
    (hrest : st.state = .resting) (hgh : st.gh = false) (hgl : st.gl = false) :
    settleStage e held st =
      if showsLow e held = true ∧ guards st.guarded .gl = false then
        { st with gl := true, glBlank := some 0 }
      else st := by
  have hwanted := wantedGates_resting (e := e) held hrest
  by_cases hlow : showsLow e held = true
  · rw [hlow] at hwanted
    rw [settleStage_of_low hwanted, turnOffGH_off hgh, turnOnGL_of_off hgh hgl]
    cases hguard : guards st.guarded .gl <;> simp [hlow]
  · rw [Bool.not_eq_true] at hlow
    rw [hlow] at hwanted
    rw [settleStage_of_none hwanted, turnOffGH_off hgh, turnOffGL_off hgl]
    simp [hlow]

/-- Settles O27: a CLAIM that is neither the owner's nor a second one is decided by the lease state
and the mode. -/
theorem claimIsGrantedOrWaits : Obligations.ClaimIsGrantedOrWaits := by
  refine ⟨fun e held st => ⟨fun h => if_neg h, fun hforced hgh hgl => ?_⟩, ?_⟩
  · rw [restStage, if_pos hforced]
    exact settleStage_resting_off rfl hgh hgl
  · intro p seq unit period mode limit s u htake hrun hu hallowed hmin hmax hmode hlimit howner hwait
    have hresponse (P : Four PortRec) :=
      claimResponse_fits (p := p) (s := { s with ports := P }) hrun hu hallowed
        ⟨hmin, hmax, hmode, hlimit⟩
    refine ⟨fun hfree => ?_, fun hlease hnowait => ?_, fun hlease hwaits => ?_⟩
    · exact completes_of_response (effect := fun s => s.grant u p period.toNat) rfl htake
        (fun P => (hresponse P).trans (claimInRange_free howner hwait hfree))
        fun Q => State.grant_eq _ u p _
    · exact refuses_of_response rfl htake fun P =>
        (hresponse P).trans (claimInRange_busy howner hwait hlease (by simp [hnowait]))
    · exact completes_of_response
        (effect := fun s => s.joinWait u (newWait p period.toNat _ s.time.stamp)) rfl htake
        (fun P => (hresponse P).trans (claimInRange_queued howner hwait hlease (by simp [hwaits])))
        fun Q => rfl

/-! ### WITHDRAW and RENEW (R15, R16) -/

/-- Settles O28: WITHDRAW asks whether the port waits, RENEW whether it is the owner. -/
theorem withdrawAndRenew : Obligations.WithdrawAndRenew := by
  intro p seq unit s
  refine ⟨fun hnone => ⟨fun htake => ?noWithdraw, fun htake => ?noRenew⟩, fun u hu =>
    ⟨fun htake => ⟨fun hwait => ?notWaiting, fun hwait => ?withdraw⟩,
      fun htake => ⟨fun howner => ?notOwner, fun ms hlease howner hperiod => ?renew⟩⟩⟩
  case noWithdraw => exact refuses_of_response rfl htake fun _ => onUnit_unnamed hnone _
  case noRenew => exact refuses_of_response rfl htake fun _ => onUnit_unnamed hnone _
  case notWaiting =>
    exact refuses_of_response rfl htake fun _ =>
      (onUnit_named hu _).trans (if_neg (Bool.eq_false_iff.mp (any_port_eq_false hwait)))
  case withdraw =>
    exact completes_of_response rfl htake
      (fun _ => (onUnit_named hu _).trans (if_pos (any_port_iff.mpr hwait))) fun _ => rfl
  case notOwner =>
    exact refuses_of_response rfl htake fun _ =>
      (onUnit_named hu _).trans (if_neg fun h => howner (UnitRec.ownedBy_iff.mp h))
  case renew =>
    have hrenewed : (s.unit u).renewed =
        { s.unit u with remaining := ms, leaseLowArmed := true } := by
      have hget : (s.unit u).period.getD 0 = ms := by
        rw [hperiod]
        rfl
      rw [UnitRec.renewed, hget]
    rw [← hrenewed]
    have hdata : ms = (s.unit u).renewed.remaining := by rw [hrenewed]
    rw [hdata]
    exact completes_of_response rfl htake
      (fun _ => (onUnit_named hu _).trans (if_pos (UnitRec.ownedBy_iff.mpr ⟨hlease, howner⟩)))
      fun _ => rfl

end Sys2Proof.Machine
end

section
/-! PROOFS. Chapters 01 and 05, the end of a lease: RELEASE, REVOKE, the timers of a unit, and
CLEAR_TRIP, with the statements O29 to O32 and O48. -/

namespace Sys2Proof.Machine

/-! ### RELEASE FINISH (R17, R20) -/

/-- R65: a leg whose unit is not HELD shows no idle level. -/
theorem idleStage_off {e : LegEntry} {st : Stage} (h : st.state = .resting) :
    idleStage e false st = turnOffGL e.dt (turnOffGH e.dt st) :=
  (if_pos h).trans (settleStage_of_none (wantedGates_resting false h))

theorem UnitRec.toReleasing_of_owner {r : UnitRec} {p : Port} (h : r.owner = some p) :
    r.toReleasing =
      { r with lease := .releasing, owner := none, releasing := some p, leaseLowArmed := false } := by
  rw [UnitRec.toReleasing, h]

/-- `s` with unit `u` RELEASING by its owner and its resting legs dark (R17, R65). -/
def State.finishing (s : State) (u : UnitNo) : State :=
  { s with
    units := s.units.set u (s.unit u).toReleasing
    stages := s.stages.mapIdx fun l st =>
      if s.unitOf l = u then idleStage (s.legEntry l) false st else st }

theorem State.finishing_unit (s : State) (u : UnitNo) :
    (s.finishing u).unit u = (s.unit u).toReleasing := Four.get_set_same ..

theorem State.finishLease_eq (s : State) (u : UnitNo) :
    s.finishLease u = (s.finishing u).drainCheck u := by
  have hbegin : (s.setUnit u (s.unit u).toReleasing).onUnitStages u idleStage = s.finishing u := by
    refine State.ext_get rfl (fun _ => rfl) (fun _ => rfl) (fun _ => rfl) (fun l => ?_)
      (fun _ => rfl)
    refine (Four.get_mapIdx ..).trans (Eq.trans ?_ (Four.get_mapIdx ..).symm)
    by_cases hl : s.unitOf l = u
    · have hheld : (s.setUnit u (s.unit u).toReleasing).unitHeld l = false := by
        have hunit : (s.setUnit u (s.unit u).toReleasing).unit (s.unitOf l) =
            (s.unit u).toReleasing := by rw [hl, State.setUnit_unit_same]
        exact decide_eq_false fun h => nomatch (congrArg UnitRec.lease hunit).symm.trans h
      rw [if_pos hl, if_pos (by exact hl), hheld]
      rfl
    · rw [if_neg hl, if_neg (by exact hl)]
      rfl
  rw [State.finishLease, hbegin]

/-- R17: a FINISH with a busy leg. -/
theorem State.finishLease_busy {s : State} {u : UnitNo} (h : s.unitDrained u = false) :
    s.finishLease u = s.finishing u := by
  rw [State.finishLease_eq, State.drainCheck_other (s.finishing u) u (.inr h)]

/-- R20: a FINISH with every leg IDLE and empty. -/
theorem State.finishLease_drained {s : State} {u : UnitNo} {p : Port}
    (howner : (s.unit u).owner = some p) (h : s.unitDrained u = true) :
    s.finishLease u = { s with
      units := s.units.set u (s.unitAfterLease u)
      stages := s.legsAfterLease u (s.tripped u) fun e st => idleStage e false st
      ports := s.told fun k =>
        toPort (some p) [.releaseDone u] k ++ s.grantTold u (s.tripped u) k } := by
  have hlease : ((s.finishing u).unit u).lease = .releasing := by rw [s.finishing_unit]; rfl
  have hwait : ((s.finishing u).unit u).wait = (s.unit u).wait := by rw [s.finishing_unit]; rfl
  have hholder : ((s.finishing u).unit u).holder = some p := by
    rw [UnitRec.holder_of_releasing hlease, s.finishing_unit]
    exact howner
  have hafter : (s.finishing u).unitAfterLease u = s.unitAfterLease u :=
    State.unitAfterLease_congr rfl hwait
  rw [State.finishLease_eq, State.drainCheck_releasing (s.finishing u) u hlease h,
    State.drain_eq, hafter, hholder]
  refine State.ext_tables rfl (fun k => ?_) (fun v => ?_) (fun _ => rfl) (fun l => ?_)
    (fun _ => rfl)
  · refine (State.told_get ..).trans (Eq.trans ?_ (State.told_get ..).symm)
    rw [State.grantTold_congr (s := s) (t := s.finishing u) _ rfl hwait]
    rfl
  · exact (congrArg (Four.get · v) (Four.set_set ..))
  · by_cases hl : s.unitOf l = u
    · refine (State.legsAfterLease_get _ _ _ _ (by exact hl)).trans
        (Eq.trans ?_ (State.legsAfterLease_get _ _ _ _ hl).symm)
      have hstage : (s.finishing u).stage l = idleStage (s.legEntry l) false (s.stage l) :=
        (Four.get_mapIdx ..).trans (if_pos hl)
      rw [hafter, hstage]
      rfl
    · refine (State.legsAfterLease_get_other _ _ _ _ (by exact hl)).trans
        (Eq.trans ?_ (State.legsAfterLease_get_other _ _ _ _ hl).symm)
      exact (Four.get_mapIdx ..).trans (if_neg hl)

theorem State.unitDrained_eq_false {s : State} {u : UnitNo}
    (h : ∃ l : Leg, s.unitOf l = u ∧ (s.seq l).idleEmpty = false) : s.unitDrained u = false := by
  obtain ⟨l, hl, hbusy⟩ := h
  refine Bool.eq_false_iff.mpr fun hdrained => ?_
  rw [(State.unitDrained_iff s u).mp hdrained l hl] at hbusy
  cases hbusy

/-- R17: the answer to a FINISH of the owner. -/
theorem releaseResponse_finish {p : Port} {unit : Byte} {s : State} {u : UnitNo}
    (hu : s.names unit u) (howns : (s.unit u).lease = .held ∧ (s.unit u).owner = some p) :
    releaseResponse p unit 0x00 s = releaseOk s u fun s => s.finishLease u :=
  (onUnit_named hu _).trans (if_pos (UnitRec.ownedBy_iff.mpr howns))

/-- Settles O29: a FINISH makes the unit RELEASING, and drains it when no leg is busy. -/
theorem releaseFinishPlaysOutOrDrains : Obligations.ReleaseFinishPlaysOutOrDrains := by
  refine ⟨fun e st => ⟨fun hrest hgh hgl => ?_, fun hrest hgh hgl => ?_, fun h => if_neg h⟩,
    fun p seq unit s u htake hu hlease howner => ⟨fun hbusy => ?_, fun hidle => ?_⟩⟩
  · rw [idleStage_off hrest, turnOffGH_off hgh, turnOffGL_on hgl]
    rfl
  · rw [idleStage_off hrest, turnOffGH_off hgh, turnOffGL_off hgl]
  · have hdrained := State.unitDrained_eq_false hbusy
    have hdata (P : Four PortRec) :
        ((State.finishLease { s with ports := P } u).unit u).lease = .releasing := by
      rw [State.finishLease_busy (s := { s with ports := P }) hdrained, State.finishing_unit]
      rfl
    refine completes_of_response (effect := fun s => s.finishLease u) rfl htake
      (fun P => (releaseResponse_finish (s := { s with ports := P }) hu ⟨hlease, howner⟩).trans ?_)
      fun Q => (State.finishLease_busy (s := { s with ports := Q }) hdrained).trans ?_
    · rw [releaseOk, hdata P]
      rfl
    · rw [← UnitRec.toReleasing_of_owner howner]
      rfl
  · have hdrained := (State.unitDrained_iff s u).mpr hidle
    have heffect (P : Four PortRec) := State.finishLease_drained (s := { s with ports := P })
      (u := u) (p := p) howner hdrained
    refine completesTelling_of_response (effect := fun s => s.finishLease u) rfl htake
      (fun P => (releaseResponse_finish (s := { s with ports := P }) hu ⟨hlease, howner⟩).trans ?_)
      heffect
    have hdata : ((State.finishLease { s with ports := P } u).unit u).lease =
        (s.unitAfterLease u).lease := by
      rw [heffect P]
      exact congrArg UnitRec.lease (Four.get_set_same ..)
    rw [releaseOk, hdata]

/-! ### RELEASE ABORT and REVOKE (R5, R18, R19, R21) -/

theorem releaseOptionOf_none {option : Byte} (h : 1 < option.toNat) :
    releaseOptionOf option = none := by
  unfold releaseOptionOf
  split_ifs with h0 h1
  · simp [h0] at h
  · simp [h1] at h
  · rfl

theorem releaseOptionOf_some {option : Byte} (h : option.toNat ≤ 1) :
    ∃ abort, releaseOptionOf option = some abort := by
  obtain rfl | rfl : option = 0x00 ∨ option = 0x01 := by
    have hcases : option.toNat = 0 ∨ option.toNat = 1 := by omega
    exact hcases.imp BitVec.eq_of_toNat_eq BitVec.eq_of_toNat_eq
  · exact ⟨false, rfl⟩
  · exact ⟨true, rfl⟩

section Release

variable {p : Port} {unit option : Byte} {s : State} {u : UnitNo} (hu : s.names unit u)

include hu

theorem releaseResponse_range (h : 1 < option.toNat) :
    releaseResponse p unit option s = refuse .range := by
  refine (onUnit_named hu _).trans ?_
  rw [releaseOptionOf_none h]

theorem releaseResponse_notOwner (h : option.toNat ≤ 1)
    (howner : ¬ ((s.unit u).lease = .held ∧ (s.unit u).owner = some p))
    (hreleasing : ¬ ((s.unit u).lease = .releasing ∧ (s.unit u).releasing = some p)) :
    releaseResponse p unit option s = refuse .notOwner := by
  obtain ⟨abort, habort⟩ := releaseOptionOf_some h
  refine (onUnit_named hu _).trans ?_
  rw [habort]
  exact (if_neg (by rw [UnitRec.ownedBy_iff]; exact howner)).trans
    (if_neg (by rw [UnitRec.releasedBy_iff]; exact hreleasing))

theorem releaseResponse_inProgress
    (h : (s.unit u).lease = .releasing ∧ (s.unit u).releasing = some p) :
    releaseResponse p unit 0x00 s = refuse .inProgress :=
  have hreleased := UnitRec.releasedBy_iff.mpr h
  (onUnit_named hu _).trans
    ((if_neg (by rw [UnitRec.ownedBy_of_releasedBy hreleased]; simp)).trans (if_pos hreleased))

/-- R18: the answer to an ABORT of the owner or the releasing port. -/
theorem releaseResponse_abort
    (h : ((s.unit u).lease = .held ∧ (s.unit u).owner = some p) ∨
      ((s.unit u).lease = .releasing ∧ (s.unit u).releasing = some p)) :
    releaseResponse p unit 0x01 s = releaseOk s u fun s => s.abort u none := by
  refine (onUnit_named hu _).trans ?_
  obtain howns | hreleases := h
  · exact if_pos (UnitRec.ownedBy_iff.mpr howns)
  · have hreleased := UnitRec.releasedBy_iff.mpr hreleases
    exact (if_neg (by rw [UnitRec.ownedBy_of_releasedBy hreleased]; simp)).trans (if_pos hreleased)

end Release

/-- Settles O30: the option byte, then the owner and the releasing port; an ABORT aborts. -/
theorem releaseIsCheckedAndAborts : Obligations.ReleaseIsCheckedAndAborts := by
  refine ⟨fun p seq unit option s htake => ⟨fun hnone => ?_, fun u hu => ⟨fun h => ?_,
    fun h howner hreleasing => ?_, fun h hlease hreleasing => ?_⟩⟩,
    fun p seq unit s u htake hu hholds => ?_⟩
  · exact refuses_of_response rfl htake fun _ => onUnit_unnamed hnone _
  · exact refuses_of_response rfl htake fun _ => releaseResponse_range hu h
  · exact refuses_of_response rfl htake fun _ => releaseResponse_notOwner hu h howner hreleasing
  · subst h
    exact refuses_of_response rfl htake fun _ =>
      releaseResponse_inProgress hu ⟨hlease, hreleasing⟩
  · refine completesTelling_of_response (effect := fun s => s.abort u none) rfl htake
      (fun P => (releaseResponse_abort (s := { s with ports := P }) hu hholds).trans ?_)
      fun Q => State.abort_eq _ u none
    have hdata : ((State.abort { s with ports := P } u none).unit u).lease =
        (s.unitAfterLease u).lease := by
      rw [State.abort_unit, if_pos rfl]
      rfl
    rw [releaseOk, hdata]

section Revoke

variable {p : Port} {unit : Byte} {s : State} {u : UnitNo}

theorem revokeResponse_setup (h : s.setup.phase = .setup) :
    revokeResponse p unit s = refuse .notRunning := by
  simp [revokeResponse, h]

variable (hrun : s.setup.phase = .run)

include hrun

theorem revokeResponse_noSuch (hnone : ∀ u, ¬ s.names unit u) :
    revokeResponse p unit s = refuse .noSuch :=
  (if_neg (by simp [hrun])).trans (onUnit_unnamed hnone _)

variable (hu : s.names unit u)

include hu

theorem revokeResponse_notSupervisor (h : s.board.supervisor ≠ some p) :
    revokeResponse p unit s = refuse .notSupervisor :=
  (if_neg (by simp [hrun])).trans ((onUnit_named hu _).trans (if_pos h))

theorem revokeResponse_nothing (h : s.board.supervisor = some p)
    (hlease : (s.unit u).lease = .free ∨ (s.unit u).lease = .quiet) :
    revokeResponse p unit s = refuse .nothingToRevoke := by
  refine (if_neg (by simp [hrun])).trans ((onUnit_named hu _).trans
    ((if_neg (not_not.mpr h)).trans (if_neg ?_)))
  obtain hlease | hlease := hlease <;> simp [UnitRec.leased, hlease]

theorem revokeResponse_leased (h : s.board.supervisor = some p)
    (hlease : (s.unit u).lease = .held ∨ (s.unit u).lease = .releasing) :
    revokeResponse p unit s =
      ⟨.ok, [], fun s => s.abort u (some (.leaseLost u .revoked))⟩ :=
  (if_neg (by simp [hrun])).trans ((onUnit_named hu _).trans
    ((if_neg (not_not.mpr h)).trans (if_pos (decide_eq_true hlease))))

end Revoke

/-- Settles O31: REVOKE is checked in order, and aborts with LEASE_LOST for the holder. -/
theorem revokeTakesALeaseAway : Obligations.RevokeTakesALeaseAway := by
  intro p seq unit s htake
  refine ⟨fun hsetup => ?_, fun hrun => ⟨fun hnone => ?_, fun u hu => ⟨fun hsup => ?_,
    fun hsup => ⟨fun hlease => ?_, fun hheld => ?_, fun hreleasing => ?_⟩⟩⟩⟩
  · exact refuses_of_response rfl htake fun _ => revokeResponse_setup hsetup
  · exact refuses_of_response rfl htake fun _ => revokeResponse_noSuch hrun hnone
  · exact refuses_of_response rfl htake fun _ => revokeResponse_notSupervisor hrun hu hsup
  · exact refuses_of_response rfl htake fun _ => revokeResponse_nothing hrun hu hsup hlease
  · rw [← UnitRec.holder_of_held hheld]
    exact completesTelling_of_response rfl htake
      (fun _ => revokeResponse_leased hrun hu hsup (.inl hheld)) fun Q => State.abort_eq _ u _
  · rw [← UnitRec.holder_of_releasing hreleasing]
    exact completesTelling_of_response rfl htake
      (fun _ => revokeResponse_leased hrun hu hsup (.inr hreleasing)) fun Q => State.abort_eq _ u _

/-! ### The timers of a unit (R6, R8, R9, R11) -/

section UnitRows

variable (u : UnitNo) (s : State)

theorem exec_leaseExpiry : exec (.leaseExpiry u) s =
    .next (if s.leaseDue u then s.abort u (some (.leaseLost u .expired)) else s) := rfl
theorem exec_quietEnd :
    exec (.quietEnd u) s = .next (if s.quietDue u then s.endQuiet u else s) := rfl
theorem exec_claimTimeout (p : Port) : exec (.claimTimeout u p) s =
    .next (if s.timeoutDue u p then
      (s.setUnit u { s.unit u with wait := (s.unit u).wait.filter fun w => !w.expired p }).notify p
        (.claimTimeout u)
    else s) := rfl

end UnitRows

theorem WaitEntry.expired_eq_false {w : WaitEntry} {p : Port} (h : w.port ≠ p) :
    w.expired p = false := decide_eq_false fun hexpired => h hexpired.1

/-- R11: the entry of a wait that has ended leaves the wait list, wherever it stands. -/
theorem filter_expired {before after : List WaitEntry} {w : WaitEntry} (hw : w.remaining = some 0)
    (hothers : ∀ x ∈ before ++ after, x.port ≠ w.port) :
    (before ++ w :: after).filter (fun x => !x.expired w.port) = before ++ after := by
  have hself : w.expired w.port = true := decide_eq_true ⟨rfl, hw⟩
  have hkeep : (before ++ after).filter (fun x => !x.expired w.port) = before ++ after :=
    List.filter_eq_self.mpr fun x hx => by
      rw [WaitEntry.expired_eq_false (hothers x hx)]
      rfl
  rw [List.filter_append] at hkeep ⊢
  rw [List.filter_cons_of_neg (by simp [hself]), hkeep]

/-- Settles O32: each timer row is due by its premise; an expiry aborts, the end of QUIET grants, the
end of a wait removes its entry. -/
theorem theTimersOfAUnitEnd : Obligations.TheTimersOfAUnitEnd := by
  refine ⟨fun u s hzero => ⟨fun hheld => ?_, fun hreleasing => ?_⟩,
    fun u s hquiet hzero => ⟨fun hwait => ?_, fun w rest hwait => ?_⟩,
    fun u s before after w hwait hw hothers => ?_⟩
  · have hdue : s.leaseDue u = true := decide_eq_true ⟨.inl hheld, hzero⟩
    rw [HappensTelling, exec_leaseExpiry, if_pos hdue, State.abort_eq,
      UnitRec.holder_of_held hheld]
  · have hdue : s.leaseDue u = true := decide_eq_true ⟨.inr hreleasing, hzero⟩
    rw [HappensTelling, exec_leaseExpiry, if_pos hdue, State.abort_eq,
      UnitRec.holder_of_releasing hreleasing]
  · have hdue : s.quietDue u = true := decide_eq_true ⟨hquiet, hzero⟩
    rw [HappensTelling, exec_quietEnd, if_pos hdue, State.endQuiet_nil s u hwait, State.told_nil,
      State.setUnit, ← hzero]
  · have hdue : s.quietDue u = true := decide_eq_true ⟨hquiet, hzero⟩
    rw [HappensTelling, exec_quietEnd, if_pos hdue, State.endQuiet_cons s u w rest hwait]
  · have hdue : s.timeoutDue u w.port = true :=
      List.any_eq_true.mpr ⟨w, by simp [hwait], decide_eq_true ⟨rfl, hw⟩⟩
    rw [HappensTelling, exec_claimTimeout, if_pos hdue, State.notify_eq, hwait,
      filter_expired hw hothers]
    rfl

/-! ### CLEAR_TRIP (R105, R106) -/

/-- R91: what holds the trip of unit `u`. -/
theorem State.latchHold_iff (s : State) (u : UnitNo) :
    s.latchHold u = true ↔ ∃ n : SenseNo, (s.sense n).armed = true ∧
      (s.senseEntry n).action = .latch ∧ s.unitOf (s.senseEntry n).target = u ∧
      ((s.sense n).qualified = true ∨ ((s.senseEntry n).window = .any ∧
        readsActive (s.senseEntry n).polarity (s.sense n).raw = true)) := by
  simp [State.latchHold, Eight.mem_eight, and_assoc]

/-- R56, R106: what the clearing of a trip does at a HELD unit in RUN. -/
theorem State.clearTrip_eq {s : State} {u : UnitNo} (hrun : s.setup.phase = .run)
    (hheld : (s.unit u).lease = .held) :
    s.clearTrip u = { s with
      trips := s.trips.set u { info := none, laterSenses := 0, laterExternal := false }
      seqs := s.seqs.mapIdx fun l q =>
        if s.unitOf l = u then { q with escalation := 0, cutSeen := false } else q
      stages := s.stages.mapIdx fun l st =>
        if s.unitOf l = u ∧ s.supply.state = .good then restStage (s.legEntry l) true st
        else st } := by
  generalize ht : (s.setTrip u .reset).resetEscalation u = t
  have hclear : s.clearTrip u = t.restoreUnit u := by rw [State.clearTrip, ht]
  have hframe : t = { s with trips := t.trips, seqs := t.seqs } := by
    rw [← ht]
    rfl
  rw [hclear]
  refine State.ext_get ?_ (fun k => ?_) (fun v => ?_) (fun l => ?_) (fun l => ?_) (fun v => ?_)
  · rw [State.restoreUnit, State.setStages, hframe]
  · rw [hframe]
    rfl
  · rw [hframe]
    rfl
  · rw [← ht]
    rfl
  · refine (Four.get_mapIdx ..).trans (Eq.trans ?_ (Four.get_mapIdx ..).symm)
    by_cases hl : s.unitOf l = u
    · have hmap : t.unitOf l = u := by
        rw [hframe]
        exact hl
      have hnormal : t.tripped u = false := by
        rw [← ht]
        simp [State.tripped, State.trip, State.resetEscalation, TripRec.tripped, TripRec.reset]
      have hlease : (t.unit u).lease = .held := by
        rw [hframe]
        exact hheld
      have hdrive : t.drivePermitted l = true ↔ s.supply.state = .good := by
        rw [State.drivePermitted_iff, hmap, hlease, hnormal]
        rw [hframe]
        simp [hrun]
      have hunitHeld : t.unitHeld l = true := decide_eq_true (by rw [hmap, hlease])
      rw [hunitHeld]
      simp only [hmap, hl, hdrive, true_and]
      rw [hframe]
      rfl
    · have hmap : ¬ t.unitOf l = u := by
        rw [hframe]
        exact hl
      rw [if_neg fun h => hmap h.1, if_neg fun h => hl h.1, hframe]
  · rw [← ht]
    rfl

section ClearTrip

variable {p : Port} {unit : Byte} {s : State} {u : UnitNo}

theorem clearTripResponse_setup (h : s.setup.phase = .setup) :
    clearTripResponse p unit s = refuse .notRunning := by
  simp [clearTripResponse, h]

variable (hrun : s.setup.phase = .run)

include hrun

theorem clearTripResponse_noSuch (hnone : ∀ u, ¬ s.names unit u) :
    clearTripResponse p unit s = refuse .noSuch :=
  (if_neg (by simp [hrun])).trans (onUnit_unnamed hnone _)

variable (hu : s.names unit u)

include hu

theorem clearTripResponse_notOwner
    (h : ¬ ((s.unit u).lease = .held ∧ (s.unit u).owner = some p)) :
    clearTripResponse p unit s = refuse .notOwner :=
  (if_neg (by simp [hrun])).trans
    ((onUnit_named hu _).trans (if_pos (UnitRec.ownedBy_eq_false.mpr h)))

variable (howns : (s.unit u).lease = .held ∧ (s.unit u).owner = some p)

include howns

theorem clearTripResponse_owner :
    clearTripResponse p unit s =
      if s.tripped u = false then refuse .notTripped
      else if s.faultN = .low ∨ s.latchHold u = true then refuse .stillActive
      else ⟨.ok, [numByte u], fun s => s.clearTrip u⟩ :=
  (if_neg (by simp [hrun])).trans
    ((onUnit_named hu _).trans (if_neg (by rw [UnitRec.ownedBy_eq_false]; exact not_not.mpr howns)))

end ClearTrip

/-- Settles O48: CLEAR_TRIP is checked in order, and lets the legs of the HELD unit rest when the
supply is GOOD. -/
theorem clearTripIsCheckedAndClears : Obligations.ClearTripIsCheckedAndClears := by
  intro p seq unit s htake
  refine ⟨fun hsetup => ?_, fun hrun => ⟨fun hnone => ?_, fun u hu => ⟨fun howner => ?_,
    fun howns hnormal => ?_, fun howns htripped hholds => ?_,
    fun howns htripped hhigh hholds => ?_⟩⟩⟩
  · exact refuses_of_response rfl htake fun _ => clearTripResponse_setup hsetup
  · exact refuses_of_response rfl htake fun _ => clearTripResponse_noSuch hrun hnone
  · exact refuses_of_response rfl htake fun _ => clearTripResponse_notOwner hrun hu howner
  · exact refuses_of_response rfl htake fun _ => (clearTripResponse_owner hrun hu howns).trans
      (if_pos (State.tripped_eq_false.mpr hnormal))
  all_goals have hnot : ¬ s.tripped u = false := fun h => htripped (State.tripped_eq_false.mp h)
  · exact refuses_of_response rfl htake fun _ => (clearTripResponse_owner hrun hu howns).trans
      ((if_neg hnot).trans (if_pos (hholds.imp id (s.latchHold_iff u).mpr)))
  · have hfree : ¬ (s.faultN = .low ∨ s.latchHold u = true) := by
      rintro (hlow | hlatch)
      · rw [hhigh] at hlow
        cases hlow
      · exact hholds ((s.latchHold_iff u).mp hlatch)
    exact completes_of_response (effect := fun s => s.clearTrip u) rfl htake
      (fun _ => (clearTripResponse_owner hrun hu howns).trans ((if_neg hnot).trans (if_neg hfree)))
      fun Q => State.clearTrip_eq (s := { s with ports := Q }) hrun howns.1

end Sys2Proof.Machine
end

section
/-! PROOFS. Chapter 02, the segment commands: how a segment record is read and checked, the stepped
on-time, ENQUEUE and FLUSH, and the statements O33 to O37. -/

namespace Sys2Proof.Machine

/-! ### The segment record (R169) -/

theorem modeOf_eq_some {b : Byte} {m : Mode} : modeOf b = some m ↔ b.toNat = modeCode m := by
  constructor
  · unfold modeOf
    split_ifs with h0 h1 h2 h3 h4 <;> rintro ⟨⟩ <;> simp [*, modeCode]
  · intro h
    have hbyte : b = BitVec.ofNat 8 (modeCode m) := by
      rw [← h, BitVec.ofNat_toNat, BitVec.setWidth_eq]
    subst hbyte
    cases m <;> rfl

theorem modeCode_le (m : Mode) : modeCode m ≤ 4 := by cases m <;> decide

/-- R169: the step of a record whose sign byte can be read. -/
theorem stepOf_eq_some {r : RawSegment} {step : Option Int} :
    stepOf r = some step ↔ (r.flags.getLsbD 1 = false → step = none) ∧
      (r.flags.getLsbD 1 = true →
        (r.stepSign = 0x00 ∧ step = some (r.stepMagnitude.toNat : Int)) ∨
          (r.stepSign = 0x01 ∧ step = some (-(r.stepMagnitude.toNat : Int)))) := by
  unfold stepOf
  by_cases hbit : r.flags.getLsbD 1 = true
  · simp only [hbit, if_true, Bool.true_eq_false, false_implies, true_and, true_implies]
    by_cases h0 : r.stepSign = 0x00
    · simp [h0, eq_comm]
    · by_cases h1 : r.stepSign = 0x01
      · simp [h1, eq_comm]
      · rw [if_neg h0, if_neg h1]
        simp only [h0, h1, reduceCtorEq, false_and, or_self]
  · rw [if_neg hbit]
    constructor
    · rintro ⟨⟩
      exact ⟨fun _ => rfl, fun h => absurd h hbit⟩
    · rintro ⟨h, -⟩
      rw [h (Bool.not_eq_true _ ▸ hbit)]

/-- The two gate bits of a flags byte without reserved bits. -/
theorem gateBits {b : Byte} (h : b.toNat < 16) :
    (b.getLsbD 3 = decide (2 ≤ b.toNat / 4)) ∧ b.getLsbD 2 = decide (b.toNat / 4 % 2 = 1) := by
  constructor
  · rw [BitVec.getLsbD, Nat.testBit_eq_decide_div_mod_eq, decide_eq_decide]
    omega
  · rw [BitVec.getLsbD, Nat.testBit_eq_decide_div_mod_eq]

/-- R169: the start gate of a record whose gate code is defined. -/
theorem gateOf_eq_some {r : RawSegment} {gate : Option StartGate} (hflags : r.flags.toNat < 16) :
    gateOf r = some gate ↔ (r.flags.toNat / 4 = 0 ∧ gate = none) ∨
      (r.flags.toNat / 4 = 1 ∧ gate = some (.atTime r.gateValue)) ∨
      (r.flags.toNat / 4 = 2 ∧ gate = some (.onSync r.gateValue.toNat)) := by
  obtain ⟨hhigh, hlow⟩ := gateBits hflags
  have hcode : r.flags.toNat / 4 < 4 := by omega
  unfold gateOf
  rw [hhigh, hlow]
  generalize r.flags.toNat / 4 = code at hcode
  obtain rfl | rfl | rfl | rfl : code = 0 ∨ code = 1 ∨ code = 2 ∨ code = 3 := by omega
  all_goals simp [eq_comm]

/-- R169: the segment that a record says. -/
theorem readSegment_eq_some {raw : RawSegment} {g : Segment} :
    readSegment raw = some g ↔ saysSegment raw g := by
  unfold readSegment saysSegment
  by_cases hflags : raw.flags.toNat < 16
  · rw [if_pos hflags, ← modeOf_eq_some, ← and_assoc (c := _ ∨ _), ← stepOf_eq_some,
      ← gateOf_eq_some hflags]
    split
    next mode step gate hmode hstep hgate =>
      rw [hmode, hstep, hgate]
      obtain ⟨gmode, gperiod, gonTime, gcount, gtag, gnotify, gstep, ggate⟩ := g
      simp only [Option.some.injEq, Segment.mk.injEq, hflags, true_and, eq_comm (b := gperiod),
        eq_comm (b := gonTime), eq_comm (b := gcount), eq_comm (b := gtag), eq_comm (b := gnotify)]
    next hnone =>
      simp only [reduceCtorEq, false_iff]
      rintro ⟨-, hmode, -, -, -, -, -, hstep, hgate⟩
      exact hnone _ _ _ hmode hstep hgate
  · rw [if_neg hflags]
    simp [hflags]

/-! ### The range checks (R42) -/

theorem modeAllowed_iff {k : LegKind} {m : Mode} : modeAllowed k m = true ↔
    (k = .highSide → m = .highOnly ∨ m = .off) ∧
      (k = .lowSide → m = .lowOnly ∨ m = .holdLow ∨ m = .off) := by
  cases k with
  | halfBridge => simp [modeAllowed]
  | highSide => cases m <;> simp [modeAllowed]
  | lowSide => cases m <;> simp [modeAllowed]

theorem usesOnTime_iff {m : Mode} :
    m.usesOnTime = true ↔ m = .complementary ∨ m = .highOnly ∨ m = .lowOnly := by
  cases m <;> simp [Mode.usesOnTime]

theorem onTimeFits_iff {e : LegEntry} {g : Segment} : onTimeFits e g = true ↔
    (g.mode = .complementary → g.onTime + 2 * e.dt ≤ g.period) ∧
      (g.mode = .highOnly ∨ g.mode = .lowOnly → g.onTime ≤ g.period) ∧
      (g.mode = .holdLow → e.dt < g.period) := by
  unfold onTimeFits
  cases g.mode <;> simp

theorem onTimeBounded_iff {e : LegEntry} {g : Segment} : onTimeBounded e g = true ↔
    (g.mode = .complementary ∨ g.mode = .highOnly ∨ g.mode = .lowOnly →
      (g.onTime = 0 ∨ e.minOn ≤ g.onTime ∧ g.onTime ≤ e.maxOn) ∧
        (g.step ≠ none → e.minOn ≤ g.onTime)) := by
  rw [← usesOnTime_iff, onTimeBounded]
  by_cases h : g.mode.usesOnTime = true
  · simp [h, Decidable.imp_iff_not_or]
  · simp [h]

theorem gateInRange_iff {g : Segment} :
    gateInRange g = true ↔ ∀ k, g.gate = some (.onSync k) → 1 ≤ k ∧ k ≤ 15 := by
  unfold gateInRange
  split
  next k h => simp [h]
  next t h => simp [h]
  next h => simp [h]

/-- R42: the range checks are those of the leg. -/
theorem segmentInRange_iff {e : LegEntry} {g : Segment} :
    segmentInRange e g = true ↔ fitsLeg e g := by
  simp only [segmentInRange, Bool.and_eq_true, modeAllowed_iff, decide_eq_true_eq, onTimeFits_iff,
    onTimeBounded_iff, gateInRange_iff, fitsLeg]
  constructor
  · rintro ⟨⟨⟨⟨⟨hhigh, hlow⟩, hmin, hmax⟩, hcompl, hon, hhold⟩, hbound⟩, hgate⟩
    exact ⟨hhigh, hlow, hmin, hmax, hcompl, hon, hbound, hhold, hgate⟩
  · rintro ⟨hhigh, hlow, hmin, hmax, hcompl, hon, hbound, hhold, hgate⟩
    exact ⟨⟨⟨⟨⟨hhigh, hlow⟩, hmin, hmax⟩, hcompl, hon, hhold⟩, hbound⟩, hgate⟩

/-- R42, R169: what ENQUEUE check 7 accepts. -/
theorem acceptSegment_eq_some {e : LegEntry} {raw : RawSegment} {g : Segment} :
    acceptSegment e raw = some g ↔ saysSegment raw g ∧ fitsLeg e g := by
  rw [← readSegment_eq_some, ← segmentInRange_iff, acceptSegment]
  cases readSegment raw with
  | none => simp
  | some g' =>
    by_cases hrange : segmentInRange e g' = true
    · simp only [hrange, if_true, Option.some.injEq]
      exact ⟨fun h => ⟨h, h ▸ hrange⟩, And.left⟩
    · simp only [hrange, Bool.false_eq_true, if_false, reduceCtorEq, Option.some.injEq, false_iff]
      rintro ⟨rfl, hg⟩
      exact hrange hg

/-- Settles O34: reading and range checks are equivalences; a coding that no segment says is
refused. -/
theorem anAcceptedSegmentLiesInRange : Obligations.AnAcceptedSegmentLiesInRange := by
  intro e raw
  refine ⟨fun g => acceptSegment_eq_some, fun g => readSegment_eq_some, fun hbad => ?_⟩
  refine Option.eq_none_iff_forall_ne_some.mpr fun g hg => ?_
  obtain ⟨⟨hflags, hmode, -, -, -, -, -, -, hstep, hgate⟩, -⟩ := acceptSegment_eq_some.mp hg
  obtain hflags' | hcode | hmode' | ⟨hbit, hsign⟩ := hbad
  · omega
  · omega
  · have hle := modeCode_le g.mode
    omega
  · obtain ⟨h, -⟩ | ⟨h, -⟩ := hstep hbit
    · simp [h] at hsign
    · simp [h] at hsign

/-! ### The stepped on-time (R36, R64) -/

theorem onTimeAt_plain {e : LegEntry} {g : Segment} (k : Nat) (h : g.step = none) :
    onTimeAt e g k = g.onTime := by
  simp [onTimeAt, h]

theorem onTimeAt_unused {e : LegEntry} {g : Segment} (k : Nat) (h : g.mode.usesOnTime = false) :
    onTimeAt e g k = g.onTime := by
  unfold onTimeAt
  cases g.step <;> simp [h]

/-- R64: a stepped on-time is the exact sum, clamped. -/
theorem onTimeAt_stepped {e : LegEntry} {g : Segment} (k : Nat) {d : Int} (h : g.step = some d)
    (hmode : g.mode.usesOnTime = true) :
    onTimeAt e g k =
      if (g.onTime : Int) + k * d < e.minOn then e.minOn
      else if (onCeiling e g : Int) < g.onTime + k * d then onCeiling e g
      else ((g.onTime : Int) + k * d).toNat := by
  simp [onTimeAt, h, hmode]

/-- R42, R64: the record's on-time of a stepped segment lies between MIN_ON and the ceiling. -/
theorem onTime_bounds {e : LegEntry} {g : Segment} (hfits : fitsLeg e g) (hstep : g.step ≠ none)
    (hmode : g.mode = .complementary ∨ g.mode = .highOnly ∨ g.mode = .lowOnly) :
    e.minOn ≤ g.onTime ∧ g.onTime ≤ onCeiling e g := by
  obtain ⟨-, -, -, -, hcompl, hon, hbound, -, -⟩ := hfits
  obtain ⟨hrange, hmin⟩ := hbound hmode
  have hle := hmin hstep
  refine ⟨hle, ?_⟩
  unfold onCeiling
  split
  next h =>
    have hroom := hcompl h
    omega
  next h =>
    have hroom := hon (hmode.resolve_left h)
    omega

/-- Settles O35: with the record's on-time between the clamps, the clamped sum is what R64 says. -/
theorem aSteppedOnTimeIsClamped : Obligations.ASteppedOnTimeIsClamped := by
  intro e raw g k haccept
  obtain ⟨-, hfits⟩ := acceptSegment_eq_some.mp haccept
  refine ⟨?_, onTimeAt_plain k, fun hmode => ?_, fun d hstep hmode => ?_⟩
  · cases hstep : g.step with
    | none => exact onTimeAt_plain 0 hstep
    | some d =>
      by_cases hmode : g.mode.usesOnTime = true
      · obtain ⟨hmin, hmax⟩ := onTime_bounds hfits (by simp [hstep]) (usesOnTime_iff.mp hmode)
        rw [onTimeAt_stepped 0 hstep hmode, Nat.cast_zero, zero_mul, add_zero, if_neg (by omega),
          if_neg (by omega), Int.toNat_natCast]
      · exact onTimeAt_unused 0 (Bool.not_eq_true _ ▸ hmode)
  · refine onTimeAt_unused k ?_
    obtain h | h := hmode <;> rw [h] <;> rfl
  · obtain ⟨hmin, hmax⟩ := onTime_bounds hfits (by simp [hstep]) hmode
    rw [onTimeAt_stepped k hstep (usesOnTime_iff.mpr hmode)]
    change e.minOn ≤ _ ∧ _ ≤ onCeiling e g ∧ _ ∧ ((onCeiling e g : Int) < _ → _ = onCeiling e g) ∧
      (_ → _ ≤ (onCeiling e g : Int) → _)
    generalize (g.onTime : Int) + k * d = v
    split_ifs <;> omega

/-! ### ENQUEUE (R41, R43) -/

theorem State.ownsLeg_iff {s : State} {p : Port} {l : Leg} : s.ownsLeg p l = true ↔
    (s.unit (s.unitOf l)).lease = .held ∧ (s.unit (s.unitOf l)).owner = some p :=
  UnitRec.ownedBy_iff

theorem State.ownsLeg_eq_false {s : State} {p : Port} {l : Leg} : s.ownsLeg p l = false ↔
    ¬ ((s.unit (s.unitOf l)).lease = .held ∧ (s.unit (s.unitOf l)).owner = some p) :=
  UnitRec.ownedBy_eq_false

section Enqueue

variable {p : Port} {leg : Byte} {raw : RawSegment} {s : State} {l : Leg}

theorem enqueueResponse_setup (h : s.setup.phase = .setup) :
    enqueueResponse p leg raw s = refuse .notRunning := by
  simp [enqueueResponse, h]

variable (hrun : s.setup.phase = .run)

include hrun

theorem enqueueResponse_noSuch (h : 4 ≤ leg.toNat) :
    enqueueResponse p leg raw s = refuse .noSuch :=
  (if_neg (by simp [hrun])).trans (onLeg_unnamed h _)

variable (hl : leg.toNat = l.val)

include hl

theorem enqueueResponse_notOwner (h : s.ownsLeg p l = false) :
    enqueueResponse p leg raw s = refuse .notOwner :=
  (if_neg (by simp [hrun])).trans ((onLeg_named hl _).trans (if_pos h))

variable (howns : s.ownsLeg p l = true)

include howns

theorem enqueueResponse_tripped (h : s.tripped (s.unitOf l) = true) :
    enqueueResponse p leg raw s = refuse .tripped :=
  (if_neg (by simp [hrun])).trans ((onLeg_named hl _).trans
    ((if_neg (by simp [howns])).trans (if_pos h)))

variable (hnormal : s.tripped (s.unitOf l) = false)

include hnormal

theorem enqueueResponse_supplyLow (h : s.supply.state ≠ .good) :
    enqueueResponse p leg raw s = refuse .supplyLow :=
  (if_neg (by simp [hrun])).trans ((onLeg_named hl _).trans
    ((if_neg (by simp [howns])).trans ((if_neg (by simp [hnormal])).trans (if_pos h))))

variable (hgood : s.supply.state = .good)

include hgood

theorem enqueueResponse_full (h : ¬ (s.seq l).queue.length < 16) :
    enqueueResponse p leg raw s = refuse .full :=
  (if_neg (by simp [hrun])).trans ((onLeg_named hl _).trans
    ((if_neg (by simp [howns])).trans ((if_neg (by simp [hnormal])).trans
      ((if_neg (not_not.mpr hgood)).trans (if_pos (Nat.le_of_not_lt h))))))

variable (hroom : (s.seq l).queue.length < 16)

include hroom

theorem enqueueResponse_range (h : acceptSegment (s.legEntry l) raw = none) :
    enqueueResponse p leg raw s = refuse .range := by
  refine (if_neg (by simp [hrun])).trans ((onLeg_named hl _).trans
    ((if_neg (by simp [howns])).trans ((if_neg (by simp [hnormal])).trans
      ((if_neg (not_not.mpr hgood)).trans ((if_neg (Nat.not_le.mpr hroom)).trans ?_)))))
  rw [h]

theorem enqueueResponse_accepted {g : Segment} (h : acceptSegment (s.legEntry l) raw = some g) :
    enqueueResponse p leg raw s =
      ⟨.ok, [numByte l, num1 ((s.appendSegment l g).seq l).queue.length],
        fun s => s.appendSegment l g⟩ := by
  refine (if_neg (by simp [hrun])).trans ((onLeg_named hl _).trans
    ((if_neg (by simp [howns])).trans ((if_neg (by simp [hnormal])).trans
      ((if_neg (not_not.mpr hgood)).trans ((if_neg (Nat.not_le.mpr hroom)).trans ?_)))))
  rw [h]

end Enqueue

/-- Settles O33: the checks of an ENQUEUE are its nested cases. -/
theorem enqueueIsCheckedInOrder : Obligations.EnqueueIsCheckedInOrder := by
  intro p seq leg raw s htake
  refine ⟨fun hsetup => ?_, fun hrun => ⟨fun hleg => ?_, fun l hl => ⟨fun howns => ?_,
    fun howns htripped => ?_, fun howns hnormal hlow => ?_, fun howns hnormal hgood hfull => ?_,
    fun howns hnormal hgood hroom hnone => ?_⟩⟩⟩
  · exact refuses_of_response rfl htake fun _ => enqueueResponse_setup hsetup
  · exact refuses_of_response rfl htake fun _ => enqueueResponse_noSuch hrun hleg
  · exact refuses_of_response rfl htake fun _ =>
      enqueueResponse_notOwner hrun hl (State.ownsLeg_eq_false.mpr howns)
  all_goals have howns' := State.ownsLeg_iff.mpr howns
  · exact refuses_of_response rfl htake fun _ =>
      enqueueResponse_tripped hrun hl howns' (Bool.not_eq_false _ ▸ htripped)
  · exact refuses_of_response rfl htake fun _ =>
      enqueueResponse_supplyLow hrun hl howns' hnormal hlow
  · exact refuses_of_response rfl htake fun _ =>
      enqueueResponse_full hrun hl howns' hnormal hgood hfull
  · exact refuses_of_response rfl htake fun _ =>
      enqueueResponse_range hrun hl howns' hnormal hgood hroom hnone

/-- R40, R43: a segment joins the queue of a leg that is not IDLE. -/
theorem State.appendSegment_busy {s : State} {l : Leg} {a : Active} (g : Segment)
    (h : (s.seq l).active = some a) :
    s.appendSegment l g = { s with
      seqs := s.seqs.set l
        { s.seq l with
          queue := (s.seq l).queue ++ [g]
          lowArmed := (s.seq l).lowArmed ||
            decide ((s.legEntry l).lowWater < (s.seq l).queue.length + 1) } } := by
  simp only [State.appendSegment, h]
  rfl

/-- R34, R43: a segment is taken by an IDLE leg at once. -/
theorem State.appendSegment_idle {s : State} {l : Leg} (g : Segment)
    (h : (s.seq l).active = none) (hq : (s.seq l).queue = [])
    (hheld : (s.unit (s.unitOf l)).lease = .held) :
    s.appendSegment l g = { s with
      seqs := s.seqs.set l
        { s.seq l with active := some (activeOf (s.legEntry l) s.time.stamp g) }
      stages := s.stages.set l
        (takeStage (s.legEntry l) true (activeOf (s.legEntry l) s.time.stamp g) (s.stage l)) } := by
  have happend : s.appendSegment l g =
      (s.setSeq l { s.seq l with queue := (s.seq l).queue ++ [g] }).take l := by
    simp only [State.appendSegment, h]
    rfl
  have hone : (s.seq l).queue ++ [g] = [g] := by rw [hq]; rfl
  have hunit : s.unitHeld l = true := decide_eq_true hheld
  rw [happend, State.setSeq_take s l (g := g) (rest := []) hone, hunit, ← hq]
  rfl

/-- Settles O36: an accepted segment joins the tail, or is taken by an IDLE leg. -/
theorem enqueueAppendsOrStarts : Obligations.EnqueueAppendsOrStarts := by
  intro p seq leg raw s l g htake hrun hl hheld howner hnormal hgood hroom haccept
  have howns := State.ownsLeg_iff.mpr ⟨hheld, howner⟩
  have hresponse (P : Four PortRec) := enqueueResponse_accepted (p := p) (raw := raw)
    (s := { s with ports := P }) hrun hl howns hnormal hgood hroom haccept
  refine ⟨fun a hactive => ?_, fun hactive hqueue => ?_⟩
  · have heffect (P : Four PortRec) :=
      State.appendSegment_busy (s := { s with ports := P }) g hactive
    refine completes_of_response (effect := fun s => s.appendSegment l g) rfl htake
      (fun P => (hresponse P).trans ?_) heffect
    have hlength : ((State.appendSegment { s with ports := P } l g).seq l).queue =
        (s.seq l).queue ++ [g] := by
      rw [heffect P]
      exact congrArg LegSeq.queue (Four.get_set_same ..)
    rw [hlength, List.length_append]
    rfl
  · have heffect (P : Four PortRec) :=
      State.appendSegment_idle (s := { s with ports := P }) g hactive hqueue hheld
    refine completes_of_response (effect := fun s => s.appendSegment l g) rfl htake
      (fun P => (hresponse P).trans ?_) heffect
    have hlength : ((State.appendSegment { s with ports := P } l g).seq l).queue = [] := by
      rw [heffect P]
      exact (congrArg LegSeq.queue (Four.get_set_same ..)).trans hqueue
    rw [hlength]
    rfl

/-! ### FLUSH (R46, R47) -/

theorem flushOptionOf_none {option : Byte} (h : 1 < option.toNat) :
    flushOptionOf option = none := by
  unfold flushOptionOf
  split_ifs with h0 h1
  · simp [h0] at h
  · simp [h1] at h
  · rfl

section Flush

variable {p : Port} {leg option : Byte} {s : State} {l : Leg}

theorem flushResponse_setup (h : s.setup.phase = .setup) :
    flushResponse p leg option s = refuse .notRunning := by
  simp [flushResponse, h]

variable (hrun : s.setup.phase = .run)

include hrun

theorem flushResponse_noSuch (h : 4 ≤ leg.toNat) :
    flushResponse p leg option s = refuse .noSuch :=
  (if_neg (by simp [hrun])).trans (onLeg_unnamed h _)

variable (hl : leg.toNat = l.val)

include hl

theorem flushResponse_notOwner (h : s.ownsLeg p l = false) :
    flushResponse p leg option s = refuse .notOwner :=
  (if_neg (by simp [hrun])).trans ((onLeg_named hl _).trans (if_pos h))

variable (howns : s.ownsLeg p l = true)

include howns

theorem flushResponse_range (h : 1 < option.toNat) :
    flushResponse p leg option s = refuse .range := by
  refine (if_neg (by simp [hrun])).trans ((onLeg_named hl _).trans
    ((if_neg (by simp [howns])).trans ?_))
  rw [flushOptionOf_none h]

theorem flushResponse_pending :
    flushResponse p leg 0x00 s =
      ⟨.ok, [numByte l, num1 (s.seq l).queue.length, 0x00, 0x00],
        fun s => s.setSeq l (s.seq l).flushPending⟩ :=
  (if_neg (by simp [hrun])).trans ((onLeg_named hl _).trans (if_neg (by simp [howns])))

theorem flushResponse_all :
    flushResponse p leg 0x01 s =
      ⟨.ok, [numByte l, num1 (s.seq l).discards] ++ optTag (s.seq l).activeTag,
        fun s => s.flushAll l⟩ :=
  (if_neg (by simp [hrun])).trans ((onLeg_named hl _).trans (if_neg (by simp [howns])))

end Flush

/-- R47: FLUSH ALL of an IDLE leg. -/
theorem State.flushAll_idle {s : State} {l : Leg} (h : (s.seq l).active = none) :
    s.flushAll l = s.setSeq l (s.seq l).flushed := by
  simp [State.flushAll, h]

/-- R47: FLUSH ALL of a busy leg, which is cut. -/
theorem State.flushAll_cut {s : State} {l : Leg} {a : Active} (h : (s.seq l).active = some a) :
    s.flushAll l = (s.setSeq l (s.seq l).flushed).onStage l stopStage := by
  simp [State.flushAll, h]

/-- Settles O37: the option byte chooses the flush; only a cut is told to the stage. -/
theorem flushEmptiesALeg : Obligations.FlushEmptiesALeg := by
  intro p seq leg option s htake
  refine ⟨fun hsetup => ?_, fun hrun => ⟨fun hleg => ?_, fun l hl => ⟨fun howns => ?_,
    fun howns hoption => ?_, fun howns hoption => ?_, fun howns hoption hidle => ?_,
    fun a howns hoption hactive => ?_⟩⟩⟩
  · exact refuses_of_response rfl htake fun _ => flushResponse_setup hsetup
  · exact refuses_of_response rfl htake fun _ => flushResponse_noSuch hrun hleg
  · exact refuses_of_response rfl htake fun _ =>
      flushResponse_notOwner hrun hl (State.ownsLeg_eq_false.mpr howns)
  all_goals have howns' := State.ownsLeg_iff.mpr howns
  · exact refuses_of_response rfl htake fun _ => flushResponse_range hrun hl howns' hoption
  · subst hoption
    exact completes_of_response rfl htake (fun _ => flushResponse_pending hrun hl howns') fun _ => rfl
  · subst hoption
    refine completes_of_response (effect := fun s => s.flushAll l) rfl htake
      (fun P => (flushResponse_all (s := { s with ports := P }) hrun hl howns').trans ?_)
      fun Q => (State.flushAll_idle (s := { s with ports := Q }) hidle).trans ?_
    · change (⟨.ok, [numByte l, num1 (s.seq l).discards] ++ optTag (s.seq l).activeTag, _⟩ :
        Response) = _
      rw [LegSeq.discards_eq, LegSeq.activeTag, hidle]
      rfl
    · change ({ s with ports := Q, seqs := s.seqs.set l (s.seq l).flushed } : State) = _
      rw [LegSeq.flushed, ← hidle]
  · subst hoption
    refine completes_of_response (effect := fun s => s.flushAll l) rfl htake
      (fun P => (flushResponse_all (s := { s with ports := P }) hrun hl howns').trans ?_)
      fun Q => (State.flushAll_cut (s := { s with ports := Q }) hactive).trans ?_
    · change (⟨.ok, [numByte l, num1 (s.seq l).discards] ++ optTag (s.seq l).activeTag, _⟩ :
        Response) = _
      rw [LegSeq.discards_eq, LegSeq.activeTag, hactive]
      rfl
    · have hheld : s.unitHeld l = true := decide_eq_true howns.1
      rw [← hheld]
      rfl

end Sys2Proof.Machine
end

section
/-! PROOFS. Chapter 02, the end of a period and of a segment, with the statements O38 and O39. -/

namespace Sys2Proof.Machine

/-! ### The end of a period (R36 to R38, R71) -/

/-- `s` with one more period of active segment `a` of leg `l` counted (R36, R71). -/
def State.periodEnded (s : State) (l : Leg) (a : Active) : State :=
  s.setSeq l
    { s.seq l with
      active := some (onePeriodMore a), cutSeen := false, escalation := escalationAfter (s.seq l) }

theorem State.periodEnded_seq (s : State) (l : Leg) (a : Active) :
    (s.periodEnded l a).seq l =
      { s.seq l with
        active := some (onePeriodMore a), cutSeen := false
        escalation := escalationAfter (s.seq l) } := State.setSeq_seq_same ..

/-- R37, R38: the period that ends is the segment's last. -/
theorem State.segmentEnds_iff (s : State) (l : Leg) (a : Active) (y : Layout) :
    (s.periodEnded l a).segmentEnds l (onePeriodMore a) y = true ↔ lastPeriod s l a y := by
  have hqueue : ((s.periodEnded l a).seq l).queue = (s.seq l).queue := by
    rw [s.periodEnded_seq]
  have hunit : (s.periodEnded l a).unit ((s.periodEnded l a).unitOf l) = s.unit (s.unitOf l) := rfl
  have hentry : (s.periodEnded l a).legEntry l = s.legEntry l := rfl
  unfold State.segmentEnds State.judgedFinal lastPeriod onePeriodMore
  rw [hqueue, hunit, hentry]
  dsimp only
  by_cases hcount : a.seg.count = 0
  · by_cases hhold : a.seg.mode = .holdLow ∧ (s.legEntry l).dt ≠ 0
    · simp [hcount, hhold]
    · rw [if_neg (by simp [hcount]), if_neg hhold]
      simp only [hcount, hhold, ne_eq, not_true_eq_false, false_and, true_and, not_false_eq_true,
        false_or, Bool.or_eq_true, Bool.not_eq_true', List.isEmpty_eq_false_iff, decide_eq_true_eq]
      refine ⟨.inr, fun h => h.resolve_left fun ⟨hmode, hdt, _⟩ => hhold ⟨hmode, hdt⟩⟩
  · simp [hcount]

/-- R36: the period that ends is not the segment's last. -/
theorem State.endPeriod_next {s : State} {l : Leg} {a : Active} {y : Layout}
    (h : ¬ lastPeriod s l a y) :
    s.endPeriod l a y =
      let next : Active :=
        { onePeriodMore a with
          onTime := onTimeAt (s.legEntry l) a.seg (onePeriodMore a).completed }
      { s with
        seqs := s.seqs.set l
          { s.seq l with
            active := some next, cutSeen := false, escalation := escalationAfter (s.seq l) }
        stages := s.stages.set l
          (beginPeriod (s.legEntry l) (s.unitHeld l) (layoutOf next) (s.stage l)) } := by
  have hnot := (s.segmentEnds_iff l a y).not.mpr h
  refine (if_neg hnot).trans ?_
  change ((s.periodEnded l a).setSeq l { (s.periodEnded l a).seq l with active := _ }).onStage l
    _ = _
  rw [s.periodEnded_seq, State.periodEnded, State.setSeq_setSeq]
  rfl

/-- R37: the period that ends is the segment's last. -/
theorem State.endPeriod_last {s : State} {l : Leg} {a : Active} {y : Layout}
    (h : lastPeriod s l a y) :
    s.endPeriod l a y = (s.periodEnded l a).endSegment l (onePeriodMore a) :=
  if_pos ((s.segmentEnds_iff l a y).mpr h)

theorem exec_periodEnd {l : Leg} {s : State} {a : Active} {y : Layout} {pos : Nat}
    (hactive : (s.seq l).active = some a) (hstate : (s.stage l).state = .playing y pos)
    (hpos : y.period ≤ pos) : exec (.periodEnd l) s = .next (s.endPeriod l a y) := by
  have hdue : s.periodDue l = true := by
    simp only [State.periodDue, hstate, hactive]
    exact decide_eq_true hpos
  change Host.Outcome.next (if s.periodDue l then _ else _) = _
  rw [if_pos hdue, hstate, hactive]

/-- Settles O38: a period end that is not the last begins the next period. -/
theorem aPeriodEndBeginsTheNextPeriod : Obligations.APeriodEndBeginsTheNextPeriod := by
  intro l s a y pos hactive hstate hpos hlast
  rw [exec_periodEnd hactive hstate hpos, State.endPeriod_next hlast]
  rfl

/-! ### Notices of one event -/

theorem toPort_nil (p : Option Port) : toPort p [] = fun _ => [] := by
  funext k
  simp [toPort]

theorem toPort_append (p : Option Port) (a b : List Notice) :
    toPort p (a ++ b) = fun k => toPort p a k ++ toPort p b k := by
  funext k
  by_cases h : p = some k <;> simp [toPort, h]

/-- R39: what SEGMENT_DONE comes to. -/
theorem State.tellDone_told (s : State) (l : Leg) (a : Active) :
    s.tellDone l a = { s with
      ports := s.told (toPort (s.legHolder l)
        (if a.seg.notify then [.segmentDone l a.seg.tag a.late a.completed] else [])) } := by
  unfold State.tellDone
  split
  · rw [State.notifyOpt_eq]
  · rw [toPort_nil, State.told_nil]

/-! ### The end of a segment with another pending (R39, R40) -/

/-- R40: QUEUE_LOW is due. -/
theorem State.queueLowCheck_due {s : State} {l : Leg} {n : Nat}
    (h : n = (s.legEntry l).lowWater + 1 ∧ (s.seq l).lowArmed = true) :
    s.queueLowCheck l n = { s with
      seqs := s.seqs.set l { s.seq l with lowArmed := false }
      ports := s.told (toPort (s.legHolder l) [.queueLow l (s.legEntry l).lowWater]) } := by
  refine (if_pos h).trans ?_
  rw [State.notifyOpt_eq]
  rfl

/-- R34, R39, R40: a segment ends with another pending. -/
theorem State.endSegment_takes {s : State} {l : Leg} {a : Active} {g : Segment}
    {rest : List Segment} (hq : (s.seq l).queue = g :: rest) :
    s.endSegment l a =
      let next := activeOf (s.legEntry l) s.time.stamp g
      let low := (s.seq l).lowArmed = true ∧ rest.length = (s.legEntry l).lowWater
      { s with
        seqs := s.seqs.set l
          { s.seq l with
            queue := rest, active := some next
            lowArmed := if low then false else (s.seq l).lowArmed }
        stages := s.stages.set l (takeStage (s.legEntry l) (s.unitHeld l) next (s.stage l))
        ports := s.told (toPort (s.legHolder l)
          ((if a.seg.notify then [.segmentDone l a.seg.tag a.late a.completed] else []) ++
            (if low then [.queueLow l rest.length] else []))) } := by
  rw [State.endSegment_cons s l a g rest hq, State.tellDone_told]
  generalize hP : s.told (toPort (s.legHolder l)
    (if a.seg.notify then [.segmentDone l a.seg.tag a.late a.completed] else [])) = P
  rw [State.setSeq_take { s with ports := P } l (q := { s.seq l with active := none }) hq]
  generalize ht : ((({ s with ports := P } : State).setSeq l _).setStage l _) = t
  have hseq : t.seq l = { s.seq l with
      queue := rest, active := some (activeOf (s.legEntry l) s.time.stamp g) } := by
    rw [← ht]
    exact Four.get_set_same ..
  have hentry : t.legEntry l = s.legEntry l := by rw [← ht]; rfl
  have hholder : t.legHolder l = s.legHolder l := by rw [← ht]; rfl
  dsimp only
  by_cases hlow : (s.seq l).lowArmed = true ∧ rest.length = (s.legEntry l).lowWater
  · have ⟨harmed, hlength⟩ := hlow
    rw [State.queueLowCheck_due (s := t) ⟨by rw [hlength, hentry], by rw [hseq]; exact harmed⟩,
      if_pos hlow, if_pos hlow, hseq, hentry, hholder, ← hlength,
      toPort_append, State.told_told s t _ _ (by rw [← ht]; exact hP.symm) (by rw [← ht]; rfl),
      ← ht, State.setStage, State.setSeq]
    simp only [Four.set_set]
    rfl
  · have hquiet : ¬ (rest.length + 1 = (t.legEntry l).lowWater + 1 ∧ (t.seq l).lowArmed = true) := by
      rw [hentry, hseq]
      exact fun ⟨hlength, harmed⟩ => hlow ⟨harmed, Nat.succ.inj hlength⟩
    rw [State.queueLowCheck_quiet t l _ hquiet, if_neg hlow, if_neg hlow, List.append_nil, hP, ← ht]
    rfl

/-! ### The end of a segment with nothing pending (R39, R45, R65, R67) -/

/-- `s` with leg `l` IDLE after segment `a`, the last one, and its notices sent, up to the drain
check (R39). -/
def State.wentIdle (s : State) (l : Leg) (a : Active) : State :=
  { s with
    seqs := s.seqs.set l { s.seq l with active := none, escalation := 0, cutSeen := false }
    stages := s.stages.set l (endStage (s.legEntry l) (s.unitHeld l) (s.stage l))
    ports := s.told (toPort (s.legHolder l)
      ((if a.seg.notify then [.segmentDone l a.seg.tag a.late a.completed] else []) ++
        [.legIdle l a.seg.tag])) }

/-- R39, R45: a segment ends with nothing pending. -/
theorem State.endSegment_idles {s : State} {l : Leg} {a : Active} (hq : (s.seq l).queue = []) :
    s.endSegment l a = (s.wentIdle l a).drainCheck (s.unitOf l) := by
  rw [State.endSegment_nil s l a hq, State.tellDone_told, State.notifyOpt_eq]
  congr 1
  rw [State.wentIdle, toPort_append]
  generalize hP : s.told (toPort (s.legHolder l)
    (if a.seg.notify then [.segmentDone l a.seg.tag a.late a.completed] else [])) = P
  generalize ht : (({ s with ports := P } : State).setSeq l (s.seq l).ended).onStage l endStage = t
  rw [State.told_told s t _ _ (by rw [← ht]; exact hP.symm) (by rw [← ht]; rfl), ← ht]
  rfl

/-- R45: the last busy leg of a unit has gone IDLE. -/
theorem State.wentIdle_unitDrained {s : State} {l : Leg} {a : Active}
    (hq : (s.seq l).queue = []) : (s.wentIdle l a).unitDrained (s.unitOf l) = true ↔
      ∀ j : Leg, j ≠ l → s.unitOf j = s.unitOf l → (s.seq j).idleEmpty = true := by
  have hself : ((s.wentIdle l a).seq l).idleEmpty = true := by
    rw [LegSeq.idleEmpty_iff]
    exact ⟨congrArg LegSeq.active (Four.get_set_same ..),
      (congrArg LegSeq.queue (Four.get_set_same ..)).trans hq⟩
  have hother (j : Leg) (hj : j ≠ l) : (s.wentIdle l a).seq j = s.seq j :=
    Four.get_set_ne _ _ _ _ hj
  rw [State.unitDrained_iff]
  refine ⟨fun h j hj hunit => hother j hj ▸ h j hunit, fun h j hunit => ?_⟩
  by_cases hj : j = l
  · exact hj ▸ hself
  · rw [hother j hj]
    exact h j hj hunit

/-- R62, R65, R67: the stage of a leg that goes IDLE, by the gate that was on. -/
theorem endStage_eq {e : LegEntry} {held : Bool} {st : Stage} {off : Stage}
    (hoff : turnOffGL e.dt (turnOffGH e.dt st) = off) :
    endStage e held st =
      if showsLow e held = true ∧ guards off.guarded .gl = false then
        { off with state := .resting, fromIdleLow := false, gl := true, glBlank := some 0 }
      else { off with state := .resting, fromIdleLow := false } := by
  obtain ⟨hgh, hgl⟩ := turnOff_gates e.dt st
  rw [hoff] at hgh hgl
  rw [endStage, hoff]
  exact settleStage_resting_off rfl hgh hgl

theorem guards_after_gl_gl (dt : Nat) : guards (guardAfter dt .gh) .gl = false := by
  unfold guardAfter
  split <;> rfl

/-- Settles O39: the last period's end takes the next segment, or leaves the leg IDLE and checks
whether its unit has drained. -/
theorem aSegmentEndTakesTheNextOrGoesIdle : Obligations.ASegmentEndTakesTheNextOrGoesIdle := by
  refine ⟨fun e held st hst => ?stage, fun l s a y pos g rest hactive hstate hpos hlast hq => ?takes,
    fun l s a y pos hactive hstate hpos hlast hq => ⟨fun hdrains => ?idles, fun hdrains => ?drains⟩⟩
  case stage =>
    dsimp only
    obtain ⟨hgh, hgl⟩ | ⟨hgh, hgl⟩ | ⟨hgh, hgl⟩ := Stage.gates_cases hst
    · rw [endStage_eq (by rw [turnOffGH_off hgh, turnOffGL_off hgl])]
      cases hlow : showsLow e held <;> cases hguard : guards st.guarded .gl <;> simp [hgh, hgl]
    · rw [endStage_eq (by rw [turnOffGH_on hgh, turnOffGL_off (by exact hgl)]), guards_after_gh]
      by_cases hdt : e.dt = 0
      · cases hlow : showsLow e held <;> simp [hgh, hgl, hdt]
      · simp [hgh, hgl, hdt, guardAfter]
    · rw [endStage_eq (by rw [turnOffGH_off hgh, turnOffGL_on hgl]), guards_after_gl_gl]
      cases hlow : showsLow e held <;> simp [hgh, hgl, guardAfter]
  case takes =>
    have hqueue : ((s.periodEnded l a).seq l).queue = g :: rest := by
      rw [s.periodEnded_seq]
      exact hq
    rw [HappensTelling, exec_periodEnd hactive hstate hpos, State.endPeriod_last hlast,
      State.endSegment_takes hqueue, s.periodEnded_seq]
    simp only [State.periodEnded, State.setSeq, Four.set_set]
    rfl
  all_goals
    have hqueue : ((s.periodEnded l a).seq l).queue = [] := by
      rw [s.periodEnded_seq]
      exact hq
    have hend : exec (.periodEnd l) s =
        .next (((s.periodEnded l a).wentIdle l (onePeriodMore a)).drainCheck (s.unitOf l)) := by
      rw [exec_periodEnd hactive hstate hpos, State.endPeriod_last hlast,
        State.endSegment_idles hqueue]
      rfl
    have hidle : (s.periodEnded l a).wentIdle l (onePeriodMore a) = s.wentIdle l (onePeriodMore a) := by
      rw [State.wentIdle, s.periodEnded_seq]
      simp only [State.periodEnded, State.setSeq, Four.set_set]
      rfl
    rw [hidle] at hend
  case idles =>
    have hstays : (s.wentIdle l (onePeriodMore a)).drainCheck (s.unitOf l) =
        s.wentIdle l (onePeriodMore a) := by
      refine State.drainCheck_other _ _ ?_
      by_cases hrel : (s.unit (s.unitOf l)).lease = .releasing
      · exact .inr (Bool.eq_false_iff.mpr fun h =>
          hdrains ⟨hrel, (State.wentIdle_unitDrained hq).mp h⟩)
      · exact .inl hrel
    rw [HappensTelling, hend, hstays]
    rfl
  case drains =>
    obtain ⟨hrel, hlegs⟩ := hdrains
    have hheld : s.unitHeld l = false := decide_eq_false (by rw [hrel]; simp)
    rw [HappensTelling, hend, State.drainCheck_releasing (s.wentIdle l (onePeriodMore a)) _ hrel
      ((State.wentIdle_unitDrained hq).mpr hlegs), State.drain_eq,
      State.told_told s (s.wentIdle l (onePeriodMore a)) _ _ rfl rfl]
    have hwent : s.wentIdle l (onePeriodMore a) = { s.wentIdle l (onePeriodMore a) with
        stages := s.stages.set l (endStage (s.legEntry l) false (s.stage l)) } := by
      rw [State.wentIdle, hheld]
    rw [hwent]
    congr 1
    refine State.ext_get rfl (fun k => ?_) (fun _ => rfl) (fun _ => rfl) (fun _ => rfl)
      (fun _ => rfl)
    refine (State.told_get ..).trans (Eq.trans ?_ (State.told_get ..).symm)
    simp only [toPort_append, List.append_assoc]
    rfl

end Sys2Proof.Machine
end

section
/-! PROOFS. Chapters 03 and 04: how a sense sample is judged and what an activation does, with the
statements O44 and O45. -/

namespace Sys2Proof.Machine

/-! ### Judging a sample (R76, R77, R80 to R82) -/

theorem comparator_eq (code sns vref : Nat) :
    comparator code sns vref = if (code + 1) * vref < sns * 64 then .high else .low := by
  rw [comparator, Nat.mul_comm 64]

theorem exec_senseSample (n : SenseNo) (sns vref : Nat) (s : State) :
    exec (.senseSample n sns vref) s = .next (s.sample n
      (if ((s.senseEntry n).threshold + 1) * vref < sns * 64 then .high else .low)) := by
  rw [← comparator_eq]
  rfl

theorem readsActive_iff {o : Polarity} {v : Level} :
    readsActive o v = true ↔ if o = .above then v = .high else v = .low := by
  cases o <;> cases v <;> simp [readsActive]

/-- R80, R81: a sample of a wu seen as `v` lies within its window and is not blanked. -/
def SenseEntry.sees (e : SenseEntry) (v : GateView) : Bool :=
  windowOpen e.window v && !blanked e.window e.blank v

theorem countBelow_eq_false {c : Option Nat} {blank : Nat} (h : c ≠ none) :
    countBelow c blank = false ↔ ∃ b, c = some b ∧ blank ≤ b := by
  obtain ⟨b, rfl⟩ := Option.ne_none_iff_exists'.mp h
  simp [countBelow]

/-- R80, R81: the window is open by its gate, whose blanking count has reached the blank time. -/
theorem SenseEntry.sees_iff {e : SenseEntry} {v : GateView}
    (hgh : e.window = .highOn → v.gh = true → v.ghBlank ≠ none)
    (hgl : e.window = .lowOn → v.gl = true → v.glBlank ≠ none) :
    e.sees v = true ↔
      (e.window = .highOn → v.gh = true ∧ ∃ b, v.ghBlank = some b ∧ e.blank ≤ b) ∧
      (e.window = .lowOn → v.gl = true ∧ ∃ b, v.glBlank = some b ∧ e.blank ≤ b) := by
  unfold SenseEntry.sees
  cases hw : e.window with
  | highOn =>
    simp only [windowOpen, blanked, Bool.and_eq_true, Bool.not_eq_true', true_implies, reduceCtorEq,
      false_implies, and_true]
    exact and_congr_right fun hon => countBelow_eq_false (hgh hw hon)
  | lowOn =>
    simp only [windowOpen, blanked, Bool.and_eq_true, Bool.not_eq_true', true_implies, reduceCtorEq,
      false_implies, true_and]
    exact and_congr_right fun hon => countBelow_eq_false (hgl hw hon)
  | any => simp [windowOpen, blanked]

/-- R82: a sample that is not counted, or reads inactive, clears the count. -/
theorem judgeSample_clears {e : SenseEntry} {v : GateView} {active : Bool} {r : SenseRec}
    (h : ¬ (e.sees v = true ∧ active = true)) :
    judgeSample e v active r = ({ r with count := 0, qualified := false }, false) :=
  if_neg fun hcounts => h (Bool.and_eq_true_iff.mp hcounts)

/-- R82, R83: a counted active sample raises the count, and may begin an activation. -/
theorem judgeSample_counts {e : SenseEntry} {v : GateView} {r : SenseRec} (h : e.sees v = true) :
    judgeSample e v true r =
      let begins := decide (min e.qualify (r.count + 1) = e.qualify) && !r.qualified
      ({ r with count := min e.qualify (r.count + 1), qualified := r.qualified || begins },
        begins) :=
  if_pos (Bool.and_eq_true_iff.mpr ⟨h, rfl⟩)

/-- R77 to R83: what a sample at level `v` makes of the comparator state of input `n`, and whether it
begins an activation. -/
def State.judgement (s : State) (n : SenseNo) (v : Level) : SenseRec × Bool :=
  judgeSample (s.senseEntry n) (s.stage (s.senseEntry n).target).seen
    (readsActive (s.senseEntry n).polarity v)
    (rearmed (readsActive (s.senseEntry n).polarity v) { s.sense n with raw := v })

section Sample

variable {s : State} {n : SenseNo} {v : Level} (harmed : (s.sense n).armed = true)

include harmed

theorem State.sample_armed :
    s.sample n v =
      if (s.judgement n v).2 then (s.setSenseRec n (s.judgement n v).1).activate n
      else s.setSenseRec n (s.judgement n v).1 :=
  if_pos harmed

/-- R77 to R83: a sample of an armed input that begins no activation. -/
theorem State.sample_judged {r : SenseRec} (h : s.judgement n v = (r, false)) :
    s.sample n v = { s with senses := s.senses.set n r } := by
  rw [State.sample_armed harmed, h]
  rfl

/-- R83: a sample of an armed input that begins an activation. -/
theorem State.sample_begins {r : SenseRec} (h : s.judgement n v = (r, true)) :
    s.sample n v = (s.setSenseRec n r).activate n := by
  rw [State.sample_armed harmed, h]
  rfl

end Sample

theorem rearmed_active (r : SenseRec) : rearmed true r = r := rfl

theorem rearmed_inactive (r : SenseRec) : rearmed false r = { r with rearm := true } := rfl

/-- Settles O44: an unarmed input records its raw level; an armed one is judged by its window, its
blanking count and its polarity. -/
theorem aSampleIsJudged : Obligations.ASampleIsJudged := by
  intro n sns vref s
  rw [exec_senseSample]
  generalize hlevel : (if ((s.senseEntry n).threshold + 1) * vref < sns * 64 then Level.high
    else Level.low) = v
  dsimp only
  rw [hlevel, ← readsActive_iff]
  refine ⟨fun harmed => ?_, fun harmed hactive => ?_, fun harmed hactive hgh hgl =>
    ⟨fun hcounts => ?_, fun hcounts hshort => ?_⟩⟩
  · rw [State.sample_unarmed s n v harmed]
  · rw [Bool.not_eq_true] at hactive
    rw [State.sample_judged harmed (judgeSample_clears (by simp [hactive])), hactive,
      rearmed_inactive]
    simp only [harmed]
  · rw [State.sample_judged harmed
      (judgeSample_clears fun h => hcounts ((SenseEntry.sees_iff hgh hgl).mp h.1)), hactive,
      rearmed_active]
    simp only [harmed]
  · have hnot : (decide (min (s.senseEntry n).qualify ((s.sense n).count + 1) =
        (s.senseEntry n).qualify) && !(s.sense n).qualified) = false := by
      obtain hqualified | hlt := hshort
      · simp [hqualified]
      · rw [decide_eq_false (by omega), Bool.false_and]
    rw [State.sample_judged harmed (r := { s.sense n with
      raw := v, count := min (s.senseEntry n).qualify ((s.sense n).count + 1) })]
    · simp only [harmed]
    · rw [State.judgement, hactive, rearmed_active, judgeSample_counts ((SenseEntry.sees_iff hgh hgl).mpr hcounts)]
      simp only [hnot, Bool.or_false]

/-! ### The actions (R69, R71, R73, R84 to R88) -/

/-- R69: a cut turns GH off at the position that it is kept with. -/
theorem cutStage_on {e : LegEntry} {st : Stage} {y : Layout} {pos : Nat}
    (hstate : st.state = .playing y pos) (hgh : st.gh = true) :
    cutStage e st =
      { st with
        state := .playing { y with cut := some pos } pos
        gh := false, ghBlank := none, deadTimer := 0
        guarded := if e.dt = 0 then .none else .gl } := by
  simp only [cutStage, hstate]
  rw [turnOffGH_on (by exact hgh)]
  rfl

theorem LegSeq.cut_fresh {q : LegSeq} (n : SenseNo) (h : q.cutSeen = false) :
    q.cut n =
      { q with cutSeen := true, escalation := min 255 (q.escalation + 1), lastCut := some n } := by
  simp [LegSeq.cut, h]

theorem LegSeq.cut_seen {q : LegSeq} (n : SenseNo) (h : q.cutSeen = true) : q.cut n = q := by
  simp [LegSeq.cut, h]

section Cut

variable {s : State} (n : SenseNo) {l : Leg} {y : Layout} {pos : Nat}

/-- `s` with the leg cut by input `n`, up to the escalation (R69, R71). -/
def State.cutBy (s : State) (n : SenseNo) (l : Leg) : State :=
  { s with
    stages := s.stages.set l (cutStage (s.legEntry l) (s.stage l))
    seqs := s.seqs.set l ((s.seq l).cut n) }

theorem State.cutBy_seq : (s.cutBy n l).seq l = (s.seq l).cut n := Four.get_set_same ..

variable (hstate : (s.stage l).state = .playing y pos) (hgh : (s.stage l).gh = true)

include hstate hgh

theorem Stage.cuttable_on : (s.stage l).cuttable = true := by
  simp only [Stage.cuttable, hstate, hgh]

/-- R73: a cut in a period already cut, or one that does not reach the limit, asks for no trip. -/
theorem State.cycleCut_counts (h : (s.seq l).cutSeen = true ∨ (s.legEntry l).escalation = 0 ∨
      ((s.seq l).cut n).escalation ≠ (s.legEntry l).escalation) :
    s.cycleCut n l = s.cutBy n l := by
  refine (if_pos (Stage.cuttable_on hstate hgh)).trans (if_neg ?_)
  change ¬ ((!(s.seq l).cutSeen &&
    decide ((s.legEntry l).escalation ≠ 0 ∧
      ((s.cutBy n l).seq l).escalation = (s.legEntry l).escalation)) = true)
  rw [State.cutBy_seq]
  obtain h | h | h := h <;> simp [h]

/-- R73: the cut that brings the counter to a limit other than 0 asks for a trip. -/
theorem State.cycleCut_escalates (hfresh : (s.seq l).cutSeen = false)
    (hlimit : (s.legEntry l).escalation ≠ 0)
    (h : ((s.seq l).cut n).escalation = (s.legEntry l).escalation) :
    s.cycleCut n l = (s.cutBy n l).tripRequest (s.unitOf l) (.escalated n) (some l) := by
  refine (if_pos (Stage.cuttable_on hstate hgh)).trans (if_pos ?_)
  change (!(s.seq l).cutSeen &&
    decide ((s.legEntry l).escalation ≠ 0 ∧
      ((s.cutBy n l).seq l).escalation = (s.legEntry l).escalation)) = true
  rw [State.cutBy_seq, hfresh, h]
  simp [hlimit]

theorem State.cutBy_fresh (hseen : (s.seq l).cutSeen = false) :
    s.cutBy n l = { s with
      stages := s.stages.set l { s.stage l with
        state := .playing { y with cut := some pos } pos
        gh := false, ghBlank := none, deadTimer := 0
        guarded := if (s.legEntry l).dt = 0 then .none else .gl }
      seqs := s.seqs.set l { s.seq l with
        cutSeen := true, escalation := min 255 ((s.seq l).escalation + 1)
        lastCut := some n } } := by
  rw [State.cutBy, cutStage_on hstate hgh, LegSeq.cut_fresh n hseen]

theorem State.cutBy_seen (hseen : (s.seq l).cutSeen = true) :
    s.cutBy n l = { s with
      stages := s.stages.set l { s.stage l with
        state := .playing { y with cut := some pos } pos
        gh := false, ghBlank := none, deadTimer := 0
        guarded := if (s.legEntry l).dt = 0 then .none else .gl } } := by
  rw [State.cutBy, cutStage_on hstate hgh, LegSeq.cut_seen n hseen, State.seq, Four.set_get]

end Cut

section Activate

variable {s : State} {n : SenseNo}

theorem State.activate_note (haction : (s.senseEntry n).action = .note)
    (h : (s.sense n).rearm = true) :
    s.activate n = { s with
      senses := s.senses.set n { s.sense n with rearm := false }
      ports := s.told (toBoth (s.legHolder (s.senseEntry n).target) s.board.supervisor
        (.senseEvent n (s.senseEntry n).target)) } := by
  simp only [State.activate, haction, h, if_true]
  rw [State.notifyBoth_eq]
  rfl

theorem State.activate_note_spent (haction : (s.senseEntry n).action = .note)
    (h : (s.sense n).rearm = false) : s.activate n = s := by
  simp [State.activate, haction, h]

theorem State.activate_cycle (haction : (s.senseEntry n).action = .cycle) :
    s.activate n = s.cycleCut n (s.senseEntry n).target := by
  simp only [State.activate, haction]

theorem State.activate_latch (haction : (s.senseEntry n).action = .latch) :
    s.activate n = s.tripRequest (s.unitOf (s.senseEntry n).target) (.sense n)
      (some (s.senseEntry n).target) := by
  simp only [State.activate, haction]

end Activate

/-- R69: a leg with GH off is not cut. -/
theorem Stage.cuttable_off {st : Stage} (h : st.gh = false) : st.cuttable = false := by
  unfold Stage.cuttable
  split
  · exact h
  all_goals rfl

/-- R81 to R83: the conditions under which a sample of input `n` that reads `level` begins an
activation: the input is armed and not qualified, and the sample is counted, active and the last that
`qualify` asks for. -/
structure State.Begins (s : State) (n : SenseNo) (level : Level) : Prop where
  armed : (s.sense n).armed = true
  fresh : (s.sense n).qualified = false
  reached : (s.senseEntry n).qualify ≤ (s.sense n).count + 1
  active : readsActive (s.senseEntry n).polarity level = true
  seen : (s.senseEntry n).sees (s.stage (s.senseEntry n).target).seen = true

/-- What the sample that begins an activation makes of the comparator state. -/
def State.judged (s : State) (n : SenseNo) (level : Level) : SenseRec :=
  { raw := level, armed := true, count := (s.senseEntry n).qualify, qualified := true
    rearm := (s.sense n).rearm }

theorem State.judged_sense (s : State) (n : SenseNo) (level : Level) :
    (s.setSenseRec n (s.judged n level)).sense n = s.judged n level :=
  Eight.get_set_same ..

theorem State.sample_activates {s : State} {n : SenseNo} {level : Level} (h : s.Begins n level) :
    s.sample n level = (s.setSenseRec n (s.judged n level)).activate n := by
  have hfull : min (s.senseEntry n).qualify ((s.sense n).count + 1) = (s.senseEntry n).qualify :=
    Nat.min_eq_left h.reached
  apply State.sample_begins h.armed
  rw [State.judgement, h.active, rearmed_active, judgeSample_counts h.seen]
  simp only [hfull, h.fresh, State.judged, h.armed, decide_true, Bool.not_false, Bool.and_self,
    Bool.or_true]

/-- Settles O45: the sample that begins an activation takes the action of its input once. -/
theorem anActivationTakesItsAction : Obligations.AnActivationTakesItsAction := by
  intro n s sns vref level e r hlevel harmed hfresh hreached habove hbelow hhigh hlow l judged i
  have hbegins : s.Begins n level :=
    { armed := harmed, fresh := hfresh, reached := hreached
      active := readsActive_iff.mpr (by
        change if e.polarity = .above then _ else _
        cases hp : e.polarity with
        | above => exact habove hp
        | below => exact hbelow hp)
      seen := (SenseEntry.sees_iff
        (fun hw _ hnone => by
          obtain ⟨-, b, hb, -⟩ := hhigh hw
          exact absurd (hnone.symm.trans hb) nofun)
        (fun hw _ hnone => by
          obtain ⟨-, b, hb, -⟩ := hlow hw
          exact absurd (hnone.symm.trans hb) nofun)).mpr ⟨hhigh, hlow⟩ }
  have hexec : exec i s = .next ((s.setSenseRec n judged).activate n) := by
    rw [exec_senseSample, ← hlevel, State.sample_activates hbegins]
    rfl
  have hcycle (haction : e.action = .cycle) :
      (s.setSenseRec n judged).activate n = (s.setSenseRec n judged).cycleCut n l :=
    State.activate_cycle haction
  have hsense : (s.setSenseRec n judged).sense n = judged := s.judged_sense n level
  refine ⟨fun haction hrearm => ?_, fun haction hspent => ?_,
    fun y pos haction hstate hgh hseen hlimit => ?_, fun y pos haction hstate hgh hseen => ?_,
    fun y pos haction hstate hgh hseen hlimit hreach => ?_, fun haction hgh => ?_,
    fun haction => ?_⟩
  · refine hexec.trans ?_
    rw [State.activate_note (s := s.setSenseRec n judged) haction
      ((congrArg SenseRec.rearm hsense).trans hrearm), hsense]
    exact congrArg (fun t => Host.Outcome.next { s with
      senses := t
      ports := s.told (toBoth (s.legHolder l) s.board.supervisor (.senseEvent n l)) })
      (Eight.set_set ..)
  · exact hexec.trans (congrArg _ (State.activate_note_spent (s := s.setSenseRec n judged) haction
      ((congrArg SenseRec.rearm hsense).trans hspent)))
  · refine hexec.trans (congrArg _ ((hcycle haction).trans ?_))
    rw [State.cycleCut_counts (s := s.setSenseRec n judged) n hstate hgh
      (.inr (hlimit.imp_right fun h => (congrArg LegSeq.escalation
        (LegSeq.cut_fresh n hseen)).trans_ne h)),
      State.cutBy_fresh (s := s.setSenseRec n judged) n hstate hgh hseen]
    rfl
  · refine hexec.trans (congrArg _ ((hcycle haction).trans ?_))
    rw [State.cycleCut_counts (s := s.setSenseRec n judged) n hstate hgh (.inl hseen),
      State.cutBy_seen (s := s.setSenseRec n judged) n hstate hgh hseen]
    rfl
  · refine hexec.trans (congrArg _ ((hcycle haction).trans ?_))
    rw [State.cycleCut_escalates (s := s.setSenseRec n judged) n hstate hgh hseen hlimit
      ((congrArg LegSeq.escalation (LegSeq.cut_fresh n hseen)).trans hreach),
      State.cutBy_fresh (s := s.setSenseRec n judged) n hstate hgh hseen]
    exact congrArg (fun m => ({ s with
      senses := _, stages := _
      seqs := s.seqs.set l { s.seq l with
        cutSeen := true, escalation := m, lastCut := some n } } : State).tripRequest
          (s.unitOf l) (.escalated n) (some l)) hreach
  · exact hexec.trans (congrArg _ ((hcycle haction).trans
      (if_neg (Bool.not_eq_true _ ▸ Stage.cuttable_off hgh))))
  · exact hexec.trans (congrArg _ (State.activate_latch (s := s.setSenseRec n judged) haction))

end Sys2Proof.Machine
end

section
/-! PROOFS. The part's own clock: what is due in a state, and one wu of every stage, with the statement
O2. -/

namespace Sys2Proof.Machine

section Due

/-! ### What is due on a leg -/

variable {s : State} {i : Instr}

theorem State.leadDue_iff {l : Leg} :
    s.leadDue l = true ↔
      ∃ y, (s.stage l).state = .leading y ∧ (s.legEntry l).dt ≤ (s.stage l).deadTimer := by
  unfold State.leadDue
  cases (s.stage l).state <;> simp

theorem State.decisionDue_iff {l : Leg} :
    s.decisionDue l = true ↔
      ∃ y pos a, (s.stage l).state = .playing y pos ∧ (s.seq l).active = some a ∧
        a.seg.count = 0 ∧ y.mode = .holdLow ∧ (s.legEntry l).dt ≠ 0 ∧ y.judged = false ∧
        pos + (s.legEntry l).dt = y.period := by
  unfold State.decisionDue
  cases (s.stage l).state <;> cases (s.seq l).active <;> simp

theorem State.changeDue_iff {l : Leg} :
    s.changeDue l = true ↔
      ∃ y pos, (s.stage l).state = .playing y pos ∧ pos < y.period ∧
        ((settleStage (s.legEntry l) (s.unitHeld l) (s.stage l)).gh ≠ (s.stage l).gh ∨
          (settleStage (s.legEntry l) (s.unitHeld l) (s.stage l)).gl ≠ (s.stage l).gl) := by
  unfold State.changeDue
  cases (s.stage l).state <;> simp

theorem State.periodDue_iff {l : Leg} :
    s.periodDue l = true ↔
      ∃ y pos a, (s.stage l).state = .playing y pos ∧ (s.seq l).active = some a ∧
        y.period ≤ pos := by
  unfold State.periodDue
  cases (s.stage l).state <;> cases (s.seq l).active <;> simp

/-- R127: the active segment waits on a time that the timestamp has reached. -/
theorem State.atTimeDue_iff {l : Leg} :
    s.atTimeDue l = true ↔
      ∃ a t, (s.seq l).active = some a ∧ a.gate = some .waiting ∧ a.seg.gate = some (.atTime t) ∧
        (s.time.stamp.toNat + 2 ^ 32 - t.toNat) % 2 ^ 32 < 2 ^ 31 := by
  unfold State.atTimeDue
  cases (s.seq l).active with
  | none => simp
  | some a =>
    simp only [Option.some.injEq, exists_eq_left', exists_and_left]
    split
    next t hgate hseg => simp only [hgate, hseg, gateOpen_iff, true_and, Option.some.injEq,
      StartGate.atTime.injEq, exists_eq_left']
    next hother =>
      refine ⟨nofun, fun ⟨hgate, t, hseg, _⟩ => absurd hseg (hother t hgate)⟩

theorem State.timeoutDue_iff {u : UnitNo} {p : Port} :
    s.timeoutDue u p = true ↔ ∃ w ∈ (s.unit u).wait, w.port = p ∧ w.remaining = some 0 := by
  simp [State.timeoutDue, WaitEntry.expired]

theorem State.lockDue_iff :
    s.lockDue = true ↔ s.setup.holder ≠ none ∧ s.setup.inactivity = 0 := by
  simp [State.lockDue, Option.isSome_iff_ne_none]

theorem State.guardDue_iff {l : Leg} :
    s.guardDue l = true ↔
      (s.stage l).guarded ≠ .none ∧ (s.legEntry l).dt ≤ (s.stage l).deadTimer :=
  decide_eq_true_iff

theorem State.leaseDue_iff {u : UnitNo} :
    s.leaseDue u = true ↔
      ((s.unit u).lease = .held ∨ (s.unit u).lease = .releasing) ∧ (s.unit u).remaining = 0 :=
  decide_eq_true_iff

theorem State.quietDue_iff {u : UnitNo} :
    s.quietDue u = true ↔ (s.unit u).lease = .quiet ∧ (s.unit u).quiet = 0 :=
  decide_eq_true_iff

theorem State.settleDue_iff :
    s.settleDue = true ↔ s.supply.state = .settling ∧ s.supply.timer = 0 :=
  decide_eq_true_iff

theorem State.stepDue_iff : s.stepDue = true ↔ 20 ≤ s.time.wu := decide_eq_true_iff

theorem State.tickDue_iff : s.tickDue = true ↔ s.time.ticksDue ≠ 0 := decide_eq_true_iff

/-! ### The rows that are due -/

/-- The waveform events of a leg, each with its premise. -/
theorem State.mem_legRows {l : Leg} :
    i ∈ s.legRows l ↔
      (i = .deadTimeGuardExpiry l ∧ s.guardDue l = true) ∨
      (i = .leadingDeadTimeEnd l ∧ s.leadDue l = true) ∨
      (i = .decisionPoint l ∧ s.decisionDue l = true) ∨
      (i = .layoutGateChange l ∧ s.changeDue l = true) ∨
      (i = .periodEnd l ∧ s.periodDue l = true) := by
  simp only [State.legRows, List.mem_append, mem_dueRow, or_assoc, and_comm]

/-- The lease events of a unit, each with its premise. -/
theorem State.mem_unitRows {u : UnitNo} :
    i ∈ s.unitRows u ↔
      (i = .leaseExpiry u ∧ s.leaseDue u = true) ∨
      (∃ p, i = .claimTimeout u p ∧ s.timeoutDue u p = true) ∨
      (i = .quietEnd u ∧ s.quietDue u = true) := by
  simp only [State.unitRows, List.mem_append, List.mem_flatMap, Four.mem_four, true_and,
    mem_dueRow, or_assoc, and_comm]

theorem State.mem_dueRows :
    i ∈ s.dueRows ↔
      (∃ l, i ∈ s.legRows l) ∨ (i = .timestampStep ∧ s.stepDue = true) ∨
      (i = .millisecondTick ∧ s.tickDue = true) ∨
      (i = .settleTimerExpiry ∧ s.settleDue = true) ∨
      (i = .setupLockInactivityExpiry ∧ s.lockDue = true) ∨
      (∃ u, i ∈ s.unitRows u) ∨ (∃ l, i = .atTimeOpening l ∧ s.atTimeDue l = true) := by
  simp only [State.dueRows, List.mem_append, List.mem_flatMap, Four.mem_four, true_and,
    mem_dueRow, or_assoc, and_comm]

/-! ### One wu and the step on an empty queue -/

theorem step_due {rest : List Instr} (hempty : s.pending = []) (hdue : s.dueRows = i :: rest) :
    step s = exec i s := by
  simp only [step, hempty, hdue]

theorem step_wu (hempty : s.pending = []) (hdue : s.dueRows = []) : step s = .next s.wu := by
  simp only [step, hempty, hdue]

end Due

theorem wuStage_playing {st : Stage} {y : Layout} {pos : Nat} (h : st.state = .playing y pos) :
    (wuStage st).state = .playing y (pos + 1) := by
  simp only [wuStage, h]

theorem wuStage_state {st : Stage} (h : ∀ y pos, st.state ≠ .playing y pos) :
    (wuStage st).state = st.state := by
  unfold wuStage
  cases hstate : st.state with
  | playing y pos => exact absurd hstate (h y pos)
  | forced => rfl
  | resting => rfl
  | leading y => rfl
  | waiting => rfl

/-- Settles O2: a step on an empty queue takes the first row due, and with none due one wu passes. -/
theorem stepOnAnEmptyQueueRunsTheClock : Obligations.StepOnAnEmptyQueueRunsTheClock := by
  refine ⟨fun s hempty => ⟨fun i rest => step_due hempty, step_wu hempty⟩, fun st => ?_,
    fun s i => ?_⟩
  · exact ⟨fun y pos => wuStage_playing, wuStage_state, fun h => if_neg h, fun h => if_pos h,
      fun n h => (congrArg blankNext h), fun h => congrArg blankNext h,
      fun n h => (congrArg blankNext h), fun h => congrArg blankNext h,
      rfl, rfl, rfl, rfl, rfl⟩
  · rw [State.mem_dueRows]
    simp only [State.mem_legRows, State.mem_unitRows, exists_or, or_assoc, State.guardDue_iff,
      State.leadDue_iff, State.decisionDue_iff, State.changeDue_iff, State.periodDue_iff,
      State.stepDue_iff, State.tickDue_iff, State.settleDue_iff, State.lockDue_iff,
      State.leaseDue_iff, State.timeoutDue_iff, State.quietDue_iff, State.atTimeDue_iff,
      exists_and_left]

end Sys2Proof.Machine
end

section
/-! PROOFS. Chapters 01 and 07: the millisecond tick, the end of the setup lock and the opening of
start gates, with the statements O51 and O52. -/

namespace Sys2Proof.Machine

/-! ### The tick at the units (R3, R7, R11, R122) -/

/-- R3: lease remaining after a tick. -/
def UnitRec.left (r : UnitRec) : Nat :=
  if r.lease = .held ∨ r.lease = .releasing then r.remaining - 1 else r.remaining

/-- R7: a tick brings lease remaining to a quarter of the period, rounded up, in HELD and armed. -/
def UnitRec.low (r : UnitRec) : Bool :=
  decide (r.lease = .held) && r.leaseLowArmed && r.period.any fun period =>
    decide (period ≤ 4 * r.left) && decide (4 * r.left < period + 4)

/-- R3, R7, R11: a unit record after a tick. -/
def UnitRec.ticked (r : UnitRec) : UnitRec :=
  { r with
    remaining := r.left
    wait := r.wait.map fun w => { w with remaining := w.remaining.map fun n => n - 1 }
    leaseLowArmed := r.leaseLowArmed && !r.low }

/-- R7: a quarter rounded up. -/
theorem eq_leaseLowThreshold_iff {n period : Nat} :
    n = leaseLowThreshold period ↔ period ≤ 4 * n ∧ 4 * n < period + 4 := by
  unfold leaseLowThreshold
  omega

theorem UnitRec.leaseLowDue_none {r : UnitRec} (h : r.period = none) : r.leaseLowDue = false := by
  simp only [UnitRec.leaseLowDue, h]

theorem UnitRec.leaseLowDue_some {r : UnitRec} {period : Nat} (h : r.period = some period) :
    r.leaseLowDue =
      (r.leaseLowArmed && decide (r.lease = .held ∧ r.remaining = leaseLowThreshold period)) := by
  simp only [UnitRec.leaseLowDue, h]

theorem UnitRec.leaseLowDue_tick (r : UnitRec) : r.tick.leaseLowDue = r.low := by
  cases h : r.period with
  | none => simp [UnitRec.leaseLowDue_none (r := r.tick) h, UnitRec.low, h]
  | some period =>
    have hleft : r.tick.remaining = r.left := rfl
    have hlease : r.tick.lease = r.lease := rfl
    have harmed : r.tick.leaseLowArmed = r.leaseLowArmed := rfl
    rw [UnitRec.leaseLowDue_some (r := r.tick) h, UnitRec.low, h, hleft, hlease, harmed]
    simp only [eq_leaseLowThreshold_iff, Bool.decide_and, Option.any_some, Bool.and_assoc,
      Bool.and_left_comm]

/-- What a tick of unit `u` sends to port `k`. -/
def State.lowTold (s : State) (u : UnitNo) (k : Port) : List Notice :=
  if (s.unit u).low = true ∧ (s.unit u).owner = some k then [.leaseLow u (s.unit u).left] else []

theorem State.tickUnit_eq (s : State) (u : UnitNo) :
    s.tickUnit u =
      { s with units := s.units.set u (s.unit u).ticked, ports := s.told (s.lowTold u) } := by
  have hdue := (s.unit u).leaseLowDue_tick
  cases hlow : (s.unit u).low with
  | false =>
    refine (if_neg (by rw [hdue, hlow]; exact Bool.false_ne_true)).trans ?_
    have htold : s.lowTold u = fun _ => [] := by
      funext k
      simp [State.lowTold, hlow]
    rw [htold, State.told_nil, UnitRec.ticked, hlow, Bool.not_false, Bool.and_true]
    rfl
  | true =>
    refine (if_pos (hdue.trans hlow)).trans ?_
    have htold : s.lowTold u = toPort (s.unit u).owner [.leaseLow u (s.unit u).left] := by
      funext k
      simp [State.lowTold, hlow, toPort]
    rw [htold, UnitRec.ticked, hlow, Bool.not_true, Bool.and_false]
    exact State.notifyOpt_eq ..

/-- `s` with a tick at the units of `us`, and the LEASE_LOW notices placed in that order. -/
def State.unitsTicked (s : State) (us : List UnitNo) : State :=
  { s with
    units := s.units.mapIdx fun u r => if u ∈ us then r.ticked else r
    ports := s.told fun k => us.flatMap fun u => s.lowTold u k }

theorem State.unitsTicked_unit (s : State) (us : List UnitNo) (v : UnitNo) :
    (s.unitsTicked us).unit v = if v ∈ us then (s.unit v).ticked else s.unit v :=
  Four.get_mapIdx ..

theorem State.unitsTicked_tickUnit (s : State) {us : List UnitNo} {u : UnitNo} (hu : u ∉ us) :
    (s.unitsTicked us).tickUnit u = s.unitsTicked (us ++ [u]) := by
  have hunit : (s.unitsTicked us).unit u = s.unit u := by rw [s.unitsTicked_unit, if_neg hu]
  have htold : (s.unitsTicked us).lowTold u = s.lowTold u := by
    funext k
    rw [State.lowTold, hunit, State.lowTold]
  rw [State.tickUnit_eq, htold, hunit]
  refine State.ext_tables rfl (fun k => ?_) (fun v => ?_) (fun l => rfl) (fun l => rfl)
    (fun v => rfl)
  · change ((s.unitsTicked us).told (s.lowTold u)).get k = _
    rw [State.told_told s (s.unitsTicked us) (fun k => us.flatMap fun u => s.lowTold u k) _ rfl rfl]
    simp [State.unitsTicked, State.port]
  · change ((s.unitsTicked us).units.set u _).get v = _
    rw [s.unitsTicked_unit, Four.get_set, ← State.unit, s.unitsTicked_unit]
    by_cases hv : v = u
    · simp [hv]
    · simp [hv]

theorem State.tickUnits_eq (s : State) :
    four.foldl (fun s u => s.tickUnit u) s = s.unitsTicked four := by
  have hnil : s.unitsTicked [] = s := by
    simp [State.unitsTicked, Four.mapIdx_id]
  conv_lhs => rw [← hnil]
  exact foldl_four fun us u hu => s.unitsTicked_tickUnit hu

/-- The notices of the units of a list, as those of its units that are due one. -/
theorem State.flatMap_lowTold (s : State) (us : List UnitNo) (k : Port) :
    (us.flatMap fun u => s.lowTold u k) =
      (us.filter fun u => (s.unit u).low && decide ((s.unit u).owner = some k)).map fun u =>
        .leaseLow u (s.unit u).left := by
  induction us with
  | nil => rfl
  | cons u us ih =>
    rw [List.flatMap_cons, ih, State.lowTold, List.filter_cons]
    by_cases h : (s.unit u).low = true ∧ (s.unit u).owner = some k <;> simp [h]

theorem Setup.tick_eq (c : Setup) :
    c.tick = { c with
      inactivity := if c.holder = none then c.inactivity else c.inactivity - 1 } := by
  unfold Setup.tick
  cases hholder : c.holder with
  | none => exact congrArg (fun h => { c with holder := h }) hholder
  | some p => rfl

theorem Supply.tick_eq (v : Supply) :
    v.tick = { v with timer := if v.state = .settling then v.timer - 1 else v.timer } := by
  unfold Supply.tick
  split <;> rfl

/-- Settles O51: the tick counts every timer down and warns the owners whose lease runs low; the lock
is dropped when its timer has reached 0. -/
theorem theTickAndTheLockTimer : Obligations.TheTickAndTheLockTimer := by
  refine ⟨fun s => ?_, fun s hholder hended => ?_⟩
  · have hunits : (s.units.mapIdx fun u r => if u ∈ four then r.ticked else r) =
        s.units.mapIdx fun u _ => (s.unit u).ticked :=
      Four.mapIdx_congr _ _ _ fun u => if_pos (Four.mem_four u)
    refine (congrArg Host.Outcome.next (State.tickUnits_eq { s with
      time := { s.time with ticksDue := s.time.ticksDue - 1 }
      setup := s.setup.tick, supply := s.supply.tick })).trans ?_
    change Host.Outcome.next { s with
      time := { s.time with ticksDue := s.time.ticksDue - 1 }
      setup := s.setup.tick, supply := s.supply.tick
      units := s.units.mapIdx fun u r => if u ∈ four then r.ticked else r
      ports := s.told fun k => four.flatMap fun u => s.lowTold u k } = _
    rw [hunits, Setup.tick_eq, Supply.tick_eq, funext (s.flatMap_lowTold four)]
    rfl
  · exact (congrArg Host.Outcome.next (if_pos (State.lockDue_iff.mpr ⟨hholder, hended⟩))).trans
      (congrArg (fun n => Host.Outcome.next
        { s with setup := { s.setup with holder := none, inactivity := n } }) hended.symm)

end Sys2Proof.Machine
end

section
/-! PROOFS. Chapter 07: the opening of start gates by the timestamp and by SYNC, with the statement
O52. -/

namespace Sys2Proof.Machine

/-! ### A gate opens at the stage (R66) -/

/-- R66: less than DT has passed since the take turned GL off from idle LOW. -/
theorem openStage_leads {e : LegEntry} {held : Bool} {a : Active} {st : Stage}
    (hidle : st.fromIdleLow = true) (hdead : st.deadTimer < e.dt) :
    openStage e held a st = { st with state := .leading (layoutOf a) } :=
  if_pos (Bool.and_eq_true_iff.mpr ⟨hidle, decide_eq_true hdead⟩)

theorem openStage_begins {e : LegEntry} {held : Bool} {a : Active} {st : Stage}
    (h : ¬ (st.fromIdleLow = true ∧ st.deadTimer < e.dt)) :
    openStage e held a st = beginPeriod e held (layoutOf a) st :=
  if_neg fun hleads => h ((Bool.and_eq_true_iff.mp hleads).imp_right of_decide_eq_true)

/-! ### An edge at a leg (R128) -/

section Edge

variable {s : State} {l : Leg} {a : Active} {n : Nat}

/-- R128: a leg that needs more edges counts one. -/
theorem State.offerEdge_counts (hactive : (s.seq l).active = some a)
    (hgate : a.gate = some (.edges n)) (hn : 2 ≤ n) :
    s.offerEdge l = { s with
      seqs := s.seqs.set l
        { s.seq l with active := some { a with gate := some (.edges (n - 1)) } } } := by
  simp only [State.offerEdge, hactive, hgate, if_pos hn]
  rfl

/-- R128: the edge that a leg waits for opens its gate. -/
theorem State.offerEdge_opens (hactive : (s.seq l).active = some a)
    (hgate : a.gate = some (.edges n)) (hn : ¬ 2 ≤ n) : s.offerEdge l = s.openGate l := by
  simp only [State.offerEdge, hactive, hgate, if_neg hn]

/-- R128: a leg that is not GATED on edges takes none. -/
theorem State.offerEdge_skips
    (h : ∀ a n, (s.seq l).active = some a → a.gate ≠ some (.edges n)) : s.offerEdge l = s := by
  unfold State.offerEdge
  split
  next => rfl
  next a hactive =>
    split
    next n hgate => exact absurd hgate (h a n hactive)
    next => rfl
    next => rfl

end Edge

/-- `s` with an edge offered to the legs of `ls`, each as it stands in `s`. -/
def State.edgeOffered (s : State) (ls : List Leg) : State :=
  { s with
    seqs := s.seqs.mapIdx fun l q => if l ∈ ls then (s.offerEdge l).seq l else q
    stages := s.stages.mapIdx fun l st => if l ∈ ls then (s.offerEdge l).stage l else st }

theorem State.edgeOffered_seq (s : State) (ls : List Leg) (l : Leg) :
    (s.edgeOffered ls).seq l = if l ∈ ls then (s.offerEdge l).seq l else s.seq l :=
  Four.get_mapIdx ..

theorem State.edgeOffered_stage (s : State) (ls : List Leg) (l : Leg) :
    (s.edgeOffered ls).stage l = if l ∈ ls then (s.offerEdge l).stage l else s.stage l :=
  Four.get_mapIdx ..

/-- R128: an edge at a leg depends on that leg and changes it alone. -/
theorem State.offerEdge_local {s t : State} {l : Leg}
    (hframe : t = { s with seqs := t.seqs, stages := t.stages })
    (hseq : t.seq l = s.seq l) (hstage : t.stage l = s.stage l) :
    t.offerEdge l = { t with
      seqs := t.seqs.set l ((s.offerEdge l).seq l)
      stages := t.stages.set l ((s.offerEdge l).stage l) } := by
  have hself : t = { t with
      seqs := t.seqs.set l (s.seq l), stages := t.stages.set l (s.stage l) } := by
    rw [← hseq, ← hstage, State.seq, State.stage, Four.set_get, Four.set_get]
  have hentry : t.legEntry l = s.legEntry l := by rw [hframe]; rfl
  have hheld : t.unitHeld l = s.unitHeld l := by rw [hframe]; rfl
  by_cases hskips : ∀ a n, (s.seq l).active = some a → a.gate ≠ some (.edges n)
  · rw [State.offerEdge_skips hskips, State.offerEdge_skips (hseq ▸ hskips)]
    exact hself
  · push Not at hskips
    obtain ⟨a, n, hactive, hgate⟩ := hskips
    by_cases hn : 2 ≤ n
    · rw [State.offerEdge_counts hactive hgate hn,
        State.offerEdge_counts (s := t) (hseq ▸ hactive) hgate hn, hseq]
      change _ = { t with
        seqs := t.seqs.set l ((s.seqs.set l _).get l), stages := t.stages.set l (s.stage l) }
      rw [Four.get_set_same, ← hstage, State.stage, Four.set_get]
    · rw [State.offerEdge_opens hactive hgate hn,
        State.offerEdge_opens (s := t) (hseq ▸ hactive) hgate hn,
        State.openGate_active s l a hactive, State.openGate_active t l a (hseq ▸ hactive),
        hseq, hstage, hentry, hheld]
      simp [State.seq, State.stage]

theorem State.edgeOffered_offerEdge (s : State) {ls : List Leg} {l : Leg} (hl : l ∉ ls) :
    (s.edgeOffered ls).offerEdge l = s.edgeOffered (ls ++ [l]) := by
  have hseq : (s.edgeOffered ls).seq l = s.seq l := by rw [s.edgeOffered_seq, if_neg hl]
  have hstage : (s.edgeOffered ls).stage l = s.stage l := by rw [s.edgeOffered_stage, if_neg hl]
  rw [State.offerEdge_local (s := s) (t := s.edgeOffered ls) rfl hseq hstage]
  refine State.ext_tables rfl (fun k => rfl) (fun v => rfl) (fun v => ?_) (fun v => ?_)
    (fun v => rfl)
  · change ((s.edgeOffered ls).seqs.set l _).get v = _
    rw [s.edgeOffered_seq, Four.get_set, ← State.seq, s.edgeOffered_seq]
    by_cases hv : v = l <;> simp [hv]
  · change ((s.edgeOffered ls).stages.set l _).get v = _
    rw [s.edgeOffered_stage, Four.get_set, ← State.stage, s.edgeOffered_stage]
    by_cases hv : v = l <;> simp [hv]

/-- R124, R128: an edge is offered to every leg. -/
theorem State.offerEdges_eq (s : State) :
    four.foldl (fun s l => s.offerEdge l) s = s.edgeOffered four := by
  have hnil : s.edgeOffered [] = s := by
    simp [State.edgeOffered, Four.mapIdx_id]
  conv_lhs => rw [← hnil]
  exact foldl_four fun ls l hl => s.edgeOffered_offerEdge hl

/-- Settles O52: start gates open by the timestamp and by the edges of SYNC. -/
theorem startGatesOpen : Obligations.StartGatesOpen := by
  refine ⟨fun e held a st => ?_, fun l s a t hactive hgate hseg => ⟨fun hopen => ?_, fun hclosed =>
    ?_⟩, fun s sample => ⟨fun hedge => ?_, fun hlast hhigh => ?_⟩⟩
  · exact ⟨openStage_leads, fun h => ⟨(congrArg Stage.state (openStage_begins h)).trans
      (settleStage_state ..), openStage_begins h⟩⟩
  · have hdue : s.atTimeDue l = true := State.atTimeDue_iff.mpr ⟨a, t, hactive, hgate, hseg, hopen⟩
    exact congrArg Host.Outcome.next ((if_pos hdue).trans (State.openGate_active s l a hactive))
  · refine congrArg Host.Outcome.next (if_neg fun hdue => ?_)
    obtain ⟨b, t', hb, -, ht', hopen⟩ := State.atTimeDue_iff.mp hdue
    cases hactive.symm.trans hb
    cases hseg.symm.trans ht'
    exact absurd hopen (Nat.not_lt.mpr hclosed)
  · exact congrArg Host.Outcome.next (if_neg (by rwa [decide_eq_true_eq]))
  · let base : State := { s with
      time := { s.time with syncLast := some sample, syncCount := s.time.syncCount + 1 } }
    have hexec : exec (.syncRisingEdge sample) s = .next (base.edgeOffered four) :=
      congrArg Host.Outcome.next ((if_pos (decide_eq_true ⟨hlast, hhigh⟩)).trans
        (State.offerEdges_eq base))
    have hseq (l : Leg) : (base.edgeOffered four).seq l = (base.offerEdge l).seq l := by
      rw [State.edgeOffered_seq, if_pos (Four.mem_four l)]
    have hstage (l : Leg) : (base.edgeOffered four).stage l = (base.offerEdge l).stage l := by
      rw [State.edgeOffered_stage, if_pos (Four.mem_four l)]
    refine ⟨_, hexec, by rw [← hhigh]; rfl, fun l a n hactive hgate => ⟨fun hn => ?_, fun hn => ?_⟩,
      fun l hskips => ?_, rfl⟩
    · rw [hseq, hstage, State.offerEdge_counts (s := base) hactive hgate hn]
      exact ⟨Four.get_set_same .., rfl⟩
    · rw [hseq, hstage, State.offerEdge_opens (s := base) hactive hgate (by omega),
        State.openGate_active base l a hactive]
      exact ⟨Four.get_set_same .., Four.get_set_same ..⟩
    · rw [hseq, hstage, State.offerEdge_skips (s := base) hskips]
      exact ⟨rfl, rfl⟩

end Sys2Proof.Machine
end
